-- ==== Sys2Proof/Word.lean ====
section
/-! DEFINITION. The words of the RDT3 protocol engine: bytes, byte strings and 32-bit words
(spec 00_scope.md R9, R10, R11). -/

namespace Sys2Proof

/-- One byte, 8 bits (R9). -/
abbrev Byte := BitVec 8

/-- A byte string; its first element is byte 0, the first byte on the wire (R11). -/
abbrev Bytes := List Byte

/-- A 32-bit value: times, digests, arguments and, in two's complement, the numbers of a packet (R9). -/
abbrev Word := BitVec 32

end Sys2Proof
end

