-- ==== Sys2Proof/Config.lean ====
section
/-! DEFINITION. The configuration parameters of an engine instance (00_scope.md R8), the OPEN ones as
constants without a value, and the values the spec leaves free (41_fault_injector.md R120). -/

namespace Sys2Proof

/-- The configuration of one instance (R8), sampled at `rst` (70_reset_and_hazards.md R184). The digest
function is CRC-32 on this hardware (40_codec.md R102), so it is no field; `TICK` is read by no rule
(R8, R127; log 17). -/
structure Config where
  /-- `INIT_TIMEOUT`, in ticks. -/
  initTimeout : Nat
  /-- `ALPHA_Q8`, the smoothing constant times 256. -/
  alphaQ8 : Nat
  /-- `P_LOSS_Q16`, the loss probability times 65536. -/
  pLossQ16 : Nat
  /-- `P_CORRUPT_Q16`, the corruption probability times 65536. -/
  pCorruptQ16 : Nat
  /-- `MAX_FRAME`, in bytes. -/
  maxFrame : Nat
  /-- `OUT_DEPTH`, in entries. -/
  outDepth : Nat
deriving DecidableEq, Repr

/-- OPEN (R8): `INIT_TIMEOUT - 1`, so that the parameter is in `1 .. 2^32-1` (DESIGN CHOICE of form, log 7; safe). -/
opaque Config.openInitTimeout : Fin 4294967295
/-- OPEN (R8): `ALPHA_Q8 - 1`, so that the parameter is in `1 .. 255` (log 7). -/
opaque Config.openAlpha : Fin 255
/-- OPEN (R8): `P_LOSS_Q16`, in `0 .. 65536` (log 7). -/
opaque Config.openPLoss : Fin 65537
/-- OPEN (R8): `P_CORRUPT_Q16` where it is given, in `0 .. 65536` (log 7). -/
opaque Config.openPCorrupt : Option (Fin 65537)
/-- OPEN (R8): `OUT_DEPTH - 1`, so that the parameter is in `1 .. 65535` (log 7). -/
opaque Config.openOutDepth : Fin 65535

/-- The configuration of this hardware (R8): `MAX_FRAME` is 1024, the rest is OPEN, and `P_CORRUPT_Q16`
equals `P_LOSS_Q16` where it is not given (R8, 90_conflicts.md C5). -/
def Config.hardware : Config where
  initTimeout := Config.openInitTimeout.val + 1
  alphaQ8 := Config.openAlpha.val + 1
  pLossQ16 := Config.openPLoss.val
  pCorruptQ16 := (Config.openPCorrupt.getD Config.openPLoss).val
  maxFrame := 1024
  outDepth := Config.openOutDepth.val + 1

/-- The value that draw number `k` of the input `rng_s` has where no event has said it: a free value
under no law (41_fault_injector.md R120, 93_implementation_defined.md I2; log 5, safe). -/
opaque Config.freeDrawS : Nat → BitVec 16
/-- The value that draw number `k` of the input `rng_r` has where no event has said it: a free value
under no law (R120, I2; log 5, safe). -/
opaque Config.freeDrawR : Nat → BitVec 16

end Sys2Proof
end

