-- ==== Sys2Proof/Syntax.lean ====
section
/-! DEFINITION. The commands of the engine: one constructor of `Instr` for each row of
spec/opcode_table.json (30_encoding.md R89), and the raw command tuple they are read from (R80). -/

namespace Sys2Proof

/-- A command as it stands on the command port: `(OPC, ARG, DATA)` (R80). `LEN` is the length of `data`;
the port carries at most 65535 bytes, which `Command.wellFormed` states (log 15). -/
structure Command where
  /-- `OPC`, the opcode. -/
  opc : BitVec 8
  /-- `ARG`, the argument. -/
  arg : Word
  /-- `DATA`, a byte string of `LEN` bytes. -/
  data : Bytes
deriving DecidableEq, Repr

/-- The commands (R89). A reserved value code of `ENC` is kept as the two bits it is: the command then
answers `ST_BAD_ARG` (R83, R92; log 14). -/
inductive Instr where
  /-- `ENC`, opcode 0x01: seq code `ARG[1:0]`, ack code `ARG[3:2]`, is_ack `ARG[4]`, the payload (R82, R114). -/
  | enc (seqCode ackCode : BitVec 2) (isAck : Bool) (data : Bytes)
  /-- `DEC`, opcode 0x02: the frame (R115). -/
  | dec (data : Bytes)
  /-- `DIG`, opcode 0x03: the payload (R116). -/
  | dig (data : Bytes)
  /-- `VFY`, opcode 0x04: the digest `ARG[31:0]`, the payload (R84, R117). -/
  | vfy (digest : Word) (data : Bytes)
  /-- `SND_SEND`, opcode 0x10: the payload (R139). -/
  | sndSend (data : Bytes)
  /-- `SND_RX`, opcode 0x11: the inbound frame (R142). -/
  | sndRx (data : Bytes)
  /-- `SND_TIMEOUT`, opcode 0x12 (R148). -/
  | sndTimeout
  /-- `SND_READY`, opcode 0x13 (R149). -/
  | sndReady
  /-- `SND_SHUTDOWN`, opcode 0x14 (R150). -/
  | sndShutdown
  /-- `RCV_RX`, opcode 0x20: the inbound frame (R155). -/
  | rcvRx (data : Bytes)
  /-- `CSR_RD`, opcode 0x30: the CSR number `ARG[7:0]` (R84, R159). -/
  | csrRd (csr : BitVec 8)
deriving DecidableEq, Repr

end Sys2Proof
end

