-- ==== Sys2Proof/Machine/State.lean ====
section
/-! DEFINITION. The state of one engine instance (10_state.md R24), its ports, the inputs the outside
world gives it, and the state right after reset (70_reset_and_hazards.md R183, R184). -/

namespace Sys2Proof.Machine

/-- The four Sender states (10_state.md R35, R36). -/
inductive SndState where
  /-- `0b00`, ready-to-send-0. -/
  | rts0
  /-- `0b10`, await-ack-0. -/
  | aw0
  /-- `0b01`, ready-to-send-1. -/
  | rts1
  /-- `0b11`, await-ack-1. -/
  | aw1
deriving DecidableEq, Repr

/-- The status codes of a response (30_encoding.md R86). -/
inductive Status where
  | ok | busy | tooLong | badArg | shutdown | illegal | badCsr
deriving DecidableEq, Repr

/-- The outcome codes of a response (30_encoding.md R87). -/
inductive Info where
  /-- `INF_NONE`: no branch to report. -/
  | noBranch
  | dropped | discarded | ignored | ackMatch | ackMismatch | sent | retransmitted | accepted | reacked
deriving DecidableEq, Repr

/-- The response record (30_encoding.md R85): `status`, `info` and `flags` are the bytes of R86, R87 and R88.
A field a command's rule does not name is 0, and `data` is then empty. -/
structure Response where
  status : BitVec 8
  info : BitVec 8 := 0#8
  flags : BitVec 8 := 0#8
  v0 : Word := 0#32
  v1 : Word := 0#32
  v2 : Word := 0#32
  data : Bytes := []
deriving DecidableEq, Repr

/-- A decoded packet (00_scope.md R14); a value inside one event, not stored state. `seq` and `ack` are
signed 32-bit numbers in two's complement (R9). -/
structure Packet where
  seq : Word
  ack : Word
  isAck : Bool
  payload : Bytes
  digest : Word
  isCorrupt : Bool
deriving DecidableEq, Repr

/-- One random-draw input (41_fault_injector.md R120): the draws known ahead, the next one first, and how
many draws have been taken (10_state.md R48). Beyond `ahead` a draw is a free value (log 5). -/
structure DrawInput where
  ahead : List (BitVec 16)
  taken : Nat
deriving DecidableEq, Repr

/-- What the outside world can bring about, and the two events the engine itself can take when the
schedule picks them (60_exceptions.md R166, R168). The order in the schedule is the open arbitration of
R169 (log 2). -/
inductive Event where
  /-- The Host presents a command on the command port (45_system.md R162). -/
  | present (c : Command)
  /-- The engine takes the command on the port, if it is enabled (R162, R167). -/
  | accept
  /-- One pulse of the `tick` input (42_timer_rtt.md R127). -/
  | tick
  /-- The timer's expiry event (42_timer_rtt.md R128). -/
  | expire
  /-- The Transport takes the head of `TX_S` (20_memory.md R60). -/
  | takeTxS
  /-- The Transport takes the head of `TX_R` (R60). -/
  | takeTxR
  /-- The Application takes the head of `DELIVER` (R60). -/
  | takeDeliver
  /-- `rst` is asserted, with the configuration applied at it (70_reset_and_hazards.md R183, R184). -/
  | reset (cfg : Config)
deriving DecidableEq, Repr

/-- Reasons to stop with a fault: NONE. "No command and no event raises an exception, traps, halts or
enters an error state" (60_exceptions.md R164; log 20). Nothing raises a fault: safe. -/
inductive Fault
deriving DecidableEq, Repr

/-- Reasons to refuse. -/
inductive Refusal where
  /-- Raised by an arm of `exec` whose instruction has no meaning yet; no arm is left so. Safe. -/
  | notModelled (mnemonic : String)
  /-- Raised by a reset event whose configuration breaks 70_reset_and_hazards.md R185: "An invalid
  configuration is refused, not modelled" (R186, 93_implementation_defined.md I7; log 9). Safe. -/
  | invalidConfiguration
deriving DecidableEq, Repr

/-- The state. The fields down to `deliver` are the complete architectural state of 10_state.md R24. -/
structure State where
  /-- `SND_STATE` (R35). -/
  sndState : SndState
  /-- `SHUTDOWN` (R37). -/
  shutdown : Bool
  /-- `PEND_VALID` (R41). -/
  pendValid : Bool
  /-- `PEND_LEN` (R41). -/
  pendLen : BitVec 16
  /-- `PEND_BUF`, `MAX_FRAME` bytes, byte 0 first (R41, R47). -/
  pendBuf : List Byte
  /-- `SEND_TS` (R39). -/
  sendTs : Word
  /-- `EST_TIMEOUT` (R38). -/
  estTimeout : Word
  /-- `LAST_RTT` (R42). -/
  lastRtt : Word
  /-- `BYTES_SENT` (R40). -/
  bytesSent : BitVec 64
  /-- `TMR_ARMED` (R43). -/
  tmrArmed : Bool
  /-- `TMR_PEND` (R43). -/
  tmrPend : Bool
  /-- `TMR_COUNT` (R43). -/
  tmrCount : Word
  /-- `NOW` (R44). -/
  now : Word
  /-- `EXPECTED`, the bit 1 being `true` (R45). -/
  expected : Bool
  /-- The FIFO `TX_S`, head first (20_memory.md R60). -/
  txS : List Bytes
  /-- The FIFO `TX_R`, head first (R60). -/
  txR : List Bytes
  /-- The FIFO `DELIVER`, head first (R60). -/
  deliver : List Bytes
  /-- The configuration sampled at `rst` (70_reset_and_hazards.md R184; log 8). -/
  cfg : Config
  /-- The command that waits on the command port (20_memory.md R61, 45_system.md R162; log 11). -/
  port : Option Command
  /-- The response to the latest command the Host presented, `none` until it is given (30_encoding.md R85;
  the model's own field, log 10). -/
  resp : Option Response
  /-- The events to come, the next one first (the model's own field, log 2). -/
  schedule : List Event
  /-- The draw input `rng_s` of `INJ_S` (41_fault_injector.md R120; the model's own field, log 5). -/
  rngS : DrawInput
  /-- The draw input `rng_r` of `INJ_R` (R120; the model's own field, log 5). -/
  rngR : DrawInput
deriving DecidableEq, Repr

/-- The engine after `rst` with the configuration `cfg` (70_reset_and_hazards.md R184), with nothing
scheduled and no draw known ahead. `PEND_BUF` has no reset value in the spec and is never read while
`PEND_VALID = 0`: DESIGN CHOICE zeros, unsafe (log 1). `resp` none: DESIGN CHOICE, unsafe (log 10). -/
def State.resetWith (cfg : Config) : State where
  sndState := .rts0
  shutdown := false
  pendValid := false
  pendLen := 0#16
  pendBuf := List.replicate cfg.maxFrame 0#8
  sendTs := 0#32
  estTimeout := BitVec.ofNat 32 cfg.initTimeout
  lastRtt := 0#32
  bytesSent := 0#64
  tmrArmed := false
  tmrPend := false
  tmrCount := 0#32
  now := 0#32
  expected := false
  txS := []
  txR := []
  deliver := []
  cfg := cfg
  port := none
  resp := none
  schedule := []
  rngS := { ahead := [], taken := 0 }
  rngR := { ahead := [], taken := 0 }

/-- The machine right after reset: this hardware's configuration (00_scope.md R8), nothing scheduled. -/
def State.reset : State := State.resetWith Config.hardware

end Sys2Proof.Machine
end

