-- ==== Sys2Proof/Machine/Flags.lean ====
section
/-! DEFINITION. The codes of the response record: status, outcome and flags (30_encoding.md R86, R87, R88). -/

namespace Sys2Proof.Machine

/-- The byte of a status (R86). -/
def Status.code : Status → BitVec 8
  | .ok => 0x00#8
  | .busy => 0x01#8
  | .tooLong => 0x02#8
  | .badArg => 0x03#8
  | .shutdown => 0x04#8
  | .illegal => 0x05#8
  | .badCsr => 0x06#8

/-- The byte of an outcome (R87). -/
def Info.code : Info → BitVec 8
  | .noBranch => 0x00#8
  | .dropped => 0x01#8
  | .discarded => 0x02#8
  | .ignored => 0x03#8
  | .ackMatch => 0x04#8
  | .ackMismatch => 0x05#8
  | .sent => 0x06#8
  | .retransmitted => 0x07#8
  | .accepted => 0x08#8
  | .reacked => 0x09#8

/-- The `flags` byte of the decoding commands: `IS_ACK`, `CORRUPT`, `MALFORMED`, `FORCED`, `TRUNCATED` in
bits 0 to 4, bits 7:5 zero (R88). -/
def flagsByte (isAck corrupt malformed forced truncated : Bool) : BitVec 8 :=
  0#3 ++ BitVec.ofBool truncated ++ BitVec.ofBool forced ++ BitVec.ofBool malformed
    ++ BitVec.ofBool corrupt ++ BitVec.ofBool isAck

end Sys2Proof.Machine
end

