-- ==== Sys2Proof/WellFormed.lean ====
section
/-! DEFINITION. What the spec allows in a command: the length of its data and the value codes of `ENC`. -/

namespace Sys2Proof

/-- The largest `LEN` of a command (30_encoding.md R80). -/
def maxLen : Nat := 65535

/-- Whether a byte string can be the `DATA` of a command (R80). -/
def dataOk (data : Bytes) : Bool := data.length ≤ maxLen

/-- Whether a 2-bit value code stands for a value: every code but the reserved `0b10` (R83). -/
def codeOk (code : BitVec 2) : Bool := code != 0b10#2

/-- The command tuple can stand on the command port (R80). -/
def Command.wellFormed (c : Command) : Bool := dataOk c.data

/-- A command the spec gives an encoding without reserved values: its data fits the port, and the value
codes of `ENC` are not the reserved one (R80, R83). -/
def Instr.wellFormed : Instr → Bool
  | .enc seqCode ackCode _ data => codeOk seqCode && codeOk ackCode && dataOk data
  | .dec data => dataOk data
  | .dig data => dataOk data
  | .vfy _ data => dataOk data
  | .sndSend data => dataOk data
  | .sndRx data => dataOk data
  | .sndTimeout => true
  | .sndReady => true
  | .sndShutdown => true
  | .rcvRx data => dataOk data
  | .csrRd _ => true

end Sys2Proof
end

