-- ==== Sys2Proof/Decode.lean ====
section
/-! DEFINITION. Decoding a command tuple into an `Instr`, total and rejecting by name, and encoding back
(30_encoding.md R80 to R84, R89 to R93). -/

namespace Sys2Proof

/-- The assigned opcodes (R89). -/
inductive Opcode where
  | enc | dec | dig | vfy | sndSend | sndRx | sndTimeout | sndReady | sndShutdown | rcvRx | csrRd
deriving DecidableEq, Repr

/-- The command formats: which of `ARG` and `DATA` a command uses (R81). -/
inductive Format where
  | n | a | d | ad
deriving DecidableEq, Repr

/-- Why a command tuple spells no command (R91, R92, R93). -/
inductive Reject where
  /-- `OPC` is unassigned: status `ST_ILLEGAL` (R91, R160). -/
  | unassignedOpcode
  /-- A reserved bit of `ARG` is 1: status `ST_BAD_ARG` (R92). -/
  | reservedArg
  /-- `LEN` is not 0 on a command of format N or A: status `ST_BAD_ARG` (R93). -/
  | strayData
deriving DecidableEq, Repr

/-- The result of decoding: a command, or the name of what is wrong with the tuple. -/
inductive Decoded where
  | instr (i : Instr)
  | reject (r : Reject)
deriving DecidableEq, Repr

/-- The opcode map (R89); every other value is unassigned (R91). -/
def opcodeOf (opc : BitVec 8) : Option Opcode :=
  if opc = 0x01#8 then some .enc
  else if opc = 0x02#8 then some .dec
  else if opc = 0x03#8 then some .dig
  else if opc = 0x04#8 then some .vfy
  else if opc = 0x10#8 then some .sndSend
  else if opc = 0x11#8 then some .sndRx
  else if opc = 0x12#8 then some .sndTimeout
  else if opc = 0x13#8 then some .sndReady
  else if opc = 0x14#8 then some .sndShutdown
  else if opc = 0x20#8 then some .rcvRx
  else if opc = 0x30#8 then some .csrRd
  else none

/-- The format of each command (R89). -/
def formatOf : Opcode → Format
  | .enc => .ad
  | .dec => .d
  | .dig => .d
  | .vfy => .ad
  | .sndSend => .d
  | .sndRx => .d
  | .sndTimeout => .n
  | .sndReady => .n
  | .sndShutdown => .n
  | .rcvRx => .d
  | .csrRd => .a

/-- Whether commands of a format use `DATA` (R81). -/
def takesData : Format → Bool
  | .n => false
  | .a => false
  | .d => true
  | .ad => true

/-- The bits of `ARG` that are not reserved (R81, R82, R84). -/
def usedArg : Opcode → Word
  | .enc => 0x0000001F#32
  | .vfy => 0xFFFFFFFF#32
  | .csrRd => 0x000000FF#32
  | _ => 0#32

/-- The command that an assigned opcode spells with its fields (R82, R84). -/
def buildInstr (op : Opcode) (arg : Word) (data : Bytes) : Instr :=
  match op with
  | .enc => .enc (arg.extractLsb' 0 2) (arg.extractLsb' 2 2) (arg.getLsbD 4) data
  | .dec => .dec data
  | .dig => .dig data
  | .vfy => .vfy arg data
  | .sndSend => .sndSend data
  | .sndRx => .sndRx data
  | .sndTimeout => .sndTimeout
  | .sndReady => .sndReady
  | .sndShutdown => .sndShutdown
  | .rcvRx => .rcvRx data
  | .csrRd => .csrRd (arg.extractLsb' 0 8)

/-- Decodes a command tuple: checks 1 and 2 of the check order (R90), but for the value codes of `ENC`,
which the command itself checks (log 14). -/
def decode (c : Command) : Decoded :=
  match opcodeOf c.opc with
  | none => .reject .unassignedOpcode
  | some op =>
    if c.arg &&& ~~~ (usedArg op) ≠ 0#32 then .reject .reservedArg
    else if !takesData (formatOf op) && !c.data.isEmpty then .reject .strayData
    else .instr (buildInstr op c.arg c.data)

/-- `ARG` of `ENC`: is_ack, ack code and seq code in bits 4, 3:2 and 1:0, reserved bits 0 (R82). -/
def encArg (seqCode ackCode : BitVec 2) (isAck : Bool) : Word :=
  0#27 ++ BitVec.ofBool isAck ++ ackCode ++ seqCode

/-- Encodes a command as the tuple the Host presents (R80 to R84, R89). -/
def encode : Instr → Command
  | .enc seqCode ackCode isAck data =>
    { opc := 0x01#8, arg := encArg seqCode ackCode isAck, data := data }
  | .dec data => { opc := 0x02#8, arg := 0#32, data := data }
  | .dig data => { opc := 0x03#8, arg := 0#32, data := data }
  | .vfy digest data => { opc := 0x04#8, arg := digest, data := data }
  | .sndSend data => { opc := 0x10#8, arg := 0#32, data := data }
  | .sndRx data => { opc := 0x11#8, arg := 0#32, data := data }
  | .sndTimeout => { opc := 0x12#8, arg := 0#32, data := [] }
  | .sndReady => { opc := 0x13#8, arg := 0#32, data := [] }
  | .sndShutdown => { opc := 0x14#8, arg := 0#32, data := [] }
  | .rcvRx data => { opc := 0x20#8, arg := 0#32, data := data }
  | .csrRd csr => { opc := 0x30#8, arg := csr.setWidth 32, data := [] }

/-- The command word `CW`: `OPC` in bits 39:32, `ARG` in bits 31:0 (R80, R97). -/
def commandWord (c : Command) : BitVec 40 := c.opc ++ c.arg

/-- The command tuple whose command word is the low `nbits` bits of `w`, with no data: the opcode table
gives the operand `DATA` no bits, so `LEN` is 0 (R80; log 21). -/
def commandOfWord (nbits w : Nat) : Command :=
  let cw := BitVec.ofNat 40 (w % 2 ^ nbits)
  { opc := cw.extractLsb' 32 8, arg := cw.extractLsb' 0 32, data := [] }

/-- The command the decoder reads from a word of spec/opcode_table.json, `none` where it rejects. -/
def decodeTableWord (nbits w : Nat) : Option Instr :=
  match decode (commandOfWord nbits w) with
  | .instr i => some i
  | .reject _ => none

end Sys2Proof
end

