-- ==== Sys2Proof/Machine/Operands.lean ====
section
/-! DEFINITION. The operand forms: value codes, length limits, Sender state codes, configuration
validity, and the status of a tuple that spells no command. -/

namespace Sys2Proof.Machine

/-- A one-bit value as a 32-bit word, 0 or 1. -/
def bitWord (b : Bool) : Word := if b then 1#32 else 0#32

/-- The sentinel −1, "unused" (00_scope.md R17). -/
def minusOne : Word := 0xFFFFFFFF#32

/-- The value of a 2-bit value code of `ENC`; `none` for the reserved `0b10` (30_encoding.md R83). -/
def codeValue (code : BitVec 2) : Option Word :=
  if code = 0b10#2 then none else some (code.signExtend 32)

/-- `MAX_PAYLOAD = MAX_FRAME - 19` (00_scope.md R8, 30_encoding.md R78). -/
def maxPayload (cfg : Config) : Nat := cfg.maxFrame - 19

/-- Check 3 of the check order for the commands that take a payload (30_encoding.md R78, R90). -/
def payloadTooLong (cfg : Config) (data : Bytes) : Bool := maxPayload cfg < data.length

/-- Check 3 of the check order for `DEC` (30_encoding.md R78, R90). -/
def frameTooLong (cfg : Config) (data : Bytes) : Bool := cfg.maxFrame < data.length

/-- The 2-bit code of a Sender state (10_state.md R36). -/
def SndState.code : SndState → BitVec 2
  | .rts0 => 0b00#2
  | .aw0 => 0b10#2
  | .rts1 => 0b01#2
  | .aw1 => 0b11#2

/-- `SND_STATE[1]`: the Sender awaits an ACK (10_state.md R36). -/
def SndState.awaiting : SndState → Bool
  | .rts0 => false
  | .aw0 => true
  | .rts1 => false
  | .aw1 => true

/-- `SND_STATE[0]`, the sequence bit `bit(S)` (00_scope.md R15, 10_state.md R36). -/
def SndState.bit : SndState → Bool
  | .rts0 => false
  | .aw0 => false
  | .rts1 => true
  | .aw1 => true

/-- `AWb` (43_sender.md R137). -/
def awaitState (b : Bool) : SndState := if b then .aw1 else .aw0

/-- `RTSb` (43_sender.md R137). -/
def readyState (b : Bool) : SndState := if b then .rts1 else .rts0

/-- A configuration is valid (70_reset_and_hazards.md R185); `DIGEST_FN` is CRC-32 by construction. -/
def configValid (cfg : Config) : Bool :=
  decide (1 ≤ cfg.initTimeout) && decide (cfg.initTimeout ≤ 4294967295)
    && decide (1 ≤ cfg.alphaQ8) && decide (cfg.alphaQ8 ≤ 255)
    && decide (cfg.pLossQ16 ≤ 65536) && decide (cfg.pCorruptQ16 ≤ 65536)
    && decide (64 ≤ cfg.maxFrame) && decide (cfg.maxFrame ≤ 65535)
    && decide (1 ≤ cfg.outDepth) && decide (cfg.outDepth ≤ 65535)

/-- The status of a tuple that spells no command: checks 1 and 2 of the check order (30_encoding.md R90,
R91, R92, R93). -/
def rejectStatus : Reject → Status
  | .unassignedOpcode => .illegal
  | .reservedArg => .badArg
  | .strayData => .badArg

/-- The opposite bit, `1 - b`. -/
def otherBit (b : Bool) : Bool := !b

end Sys2Proof.Machine
end

