-- ==== Sys2Proof/Machine/Timer.lean ====
section
/-! DEFINITION. The Retransmission Timer, the RTT Estimator and the tick (42_timer_rtt.md R125 to R136). -/

namespace Sys2Proof.Machine

/-- `timer_start()` (R126): arms with the current estimate; cancels any countdown or latched expiry. -/
def State.timerStart (s : State) : State :=
  { s with tmrCount := s.estTimeout, tmrArmed := true, tmrPend := false }

/-- `timer_stop()` (R129): disarms and cancels a latched expiry. -/
def State.timerStop (s : State) : State :=
  { s with tmrArmed := false, tmrPend := false, tmrCount := 0#32 }

/-- The tick event (R127). With `TMR_ARMED = 1` and `TMR_COUNT = 0`, which no run reaches, the count wraps:
DESIGN CHOICE, unsafe (log 13). -/
def State.tick (s : State) : State :=
  let s := { s with now := s.now + 1#32 }
  if s.tmrArmed then
    let count := s.tmrCount - 1#32
    if count = 0#32 then { s with tmrCount := count, tmrArmed := false, tmrPend := true }
    else { s with tmrCount := count }
  else s

/-- `rtt_sample()`: `(NOW - SEND_TS) mod 2^32` (R132). -/
def State.rttSample (s : State) : Word := s.now - s.sendTs

/-- The new estimate `max(floor(((256 - A) * E + A * S) / 256), 1)` (R133, R134). -/
def ewma (alphaQ8 : Nat) (est sample : Word) : Word :=
  BitVec.ofNat 32 (max (((256 - alphaQ8) * est.toNat + alphaQ8 * sample.toNat) / 256) 1)

/-- `rtt_update(S)` (R133). -/
def State.rttUpdate (sample : Word) (s : State) : State :=
  { s with lastRtt := sample, estTimeout := ewma s.cfg.alphaQ8 s.estTimeout sample }

end Sys2Proof.Machine
end

