-- ==== Sys2Proof/Machine/Ops.lean ====
section
/-! DEFINITION. The named operations over the state that the commands and events share: the response, the
output FIFOs, the pending frame, transmission and the timeout handler.

TAKING AN EXCEPTION: the spec has none. "No event saves state, changes mode, switches a stack or jumps to a
vector" (60_exceptions.md R172), and no event returns (R173). What stands in its place is the response with a
status, `State.refuse` below, and the expiry event of Machine/Events.lean (log 20). -/

namespace Sys2Proof.Machine

/-! ### The response (30_encoding.md R85) -/

/-- The engine gives the response to the command, which leaves the port (R85, 45_system.md R162). -/
def State.respond (r : Response) (s : State) : State := { s with port := none, resp := some r }

/-- A refused command: every field but `status` is zero, and no other state changes (R85, R90). -/
def State.refuse (st : Status) (s : State) : State := s.respond { status := st.code }

/-- The response of `SND_RX` and `RCV_RX` for a frame that was not dropped (R85). -/
def packetResponse (info : Info) (flags : BitVec 8) (p : Packet) : Response :=
  { status := Status.ok.code, info := info.code, flags := flags, v0 := p.seq, v1 := p.ack, v2 := p.digest }

/-- The response of `SND_RX` and `RCV_RX` for a dropped frame (R85). -/
def droppedResponse (flags : BitVec 8) : Response :=
  { status := Status.ok.code, info := Info.dropped.code, flags := flags }

/-! ### The output FIFOs (20_memory.md R60, R61) -/

/-- Whether a FIFO has a free entry (R61). No event emits two entries into one FIFO. -/
def hasRoom (cfg : Config) (fifo : List Bytes) : Bool := fifo.length < cfg.outDepth

/-- `emit(TX_S, B)` (R60). -/
def State.emitTxS (frame : Bytes) (s : State) : State := { s with txS := s.txS ++ [frame] }

/-- `emit(TX_R, B)` (R60). -/
def State.emitTxR (frame : Bytes) (s : State) : State := { s with txR := s.txR ++ [frame] }

/-- `emit(DELIVER, B)` (R60). -/
def State.emitDeliver (payload : Bytes) (s : State) : State := { s with deliver := s.deliver ++ [payload] }

/-! ### The pending frame (10_state.md R41) -/

/-- `PEND_BUF[0:PEND_LEN)`. -/
def State.pendingFrame (s : State) : Bytes := s.pendBuf.take s.pendLen.toNat

/-- `PEND_BUF[0:len(F)) <- F; PEND_LEN <- len(F); PEND_VALID <- 1` (43_sender.md R139). -/
def State.storePending (frame : Bytes) (s : State) : State :=
  { s with
    pendBuf := frame ++ s.pendBuf.drop frame.length
    pendLen := BitVec.ofNat 16 frame.length
    pendValid := true }

/-- `PEND_VALID <- 0; PEND_LEN <- 0` (43_sender.md R142, R144). `PEND_BUF` may then hold any value
(93_implementation_defined.md I9); the model keeps the released bytes: DESIGN CHOICE, unsafe (log 23). -/
def State.releasePending (s : State) : State := { s with pendValid := false, pendLen := 0#16 }

/-! ### Transmission and the timeout handler (43_sender.md R138, R147) -/

/-- `transmit(F)` (R138): emits, stamps and arms. -/
def State.transmit (frame : Bytes) (s : State) : State :=
  let s := s.emitTxS frame
  let s := { s with sendTs := s.now }
  s.timerStart

/-- Whether `on_timeout()` would emit (R147, 42_timer_rtt.md R128). -/
def State.timeoutEmits (s : State) : Bool := !s.shutdown && s.sndState.awaiting

/-- `on_timeout()` (R147): the state after it, and its info code. -/
def State.onTimeout (s : State) : State × Info :=
  if s.shutdown then (s, .noBranch)
  else if !s.sndState.awaiting then (s, .ignored)
  else (s.transmit s.pendingFrame, .retransmitted)

/-- The level of the output pin `snd_ready`, equal to `READY` (10_state.md R34, R52). -/
def State.sndReady (s : State) : Bool := !s.sndState.awaiting

end Sys2Proof.Machine
end

