-- ==== Sys2Proof/Machine/Events.lean ====
section
/-! DEFINITION. The events that are no commands (60_exceptions.md R166, R167): presenting a command, the
expiry, the takes and reset. The tick is `State.tick` of Machine/Timer.lean. An event that is not enabled does
not happen: the state is left as it is (DEDUCED, log 3, safe). -/

namespace Sys2Proof.Machine

/-- The Host presents a command, which it does only with the port free: one command at a time (45_system.md
R162, R163). The response register is empty until the response is given (log 10). -/
def State.present (c : Command) (s : State) : State :=
  match s.port with
  | some _ => s
  | none => { s with port := some c, resp := none }

/-- Whether the expiry event is enabled (42_timer_rtt.md R128, 60_exceptions.md R167). -/
def State.expiryEnabled (s : State) : Bool := s.tmrPend && (!s.timeoutEmits || hasRoom s.cfg s.txS)

/-- The expiry event: `TMR_PEND <- 0`, then `on_timeout()` (42_timer_rtt.md R128). -/
def State.expire (s : State) : State :=
  if s.expiryEnabled then (State.onTimeout { s with tmrPend := false }).1 else s

/-- The Transport takes the head of `TX_S`; nothing happens on an empty FIFO (20_memory.md R60,
60_exceptions.md R167). The entry leaves the engine (log 16). -/
def State.takeTxS (s : State) : State := { s with txS := s.txS.tail }

/-- The Transport takes the head of `TX_R` (R60). -/
def State.takeTxR (s : State) : State := { s with txR := s.txR.tail }

/-- The Application takes the head of `DELIVER` (R60). -/
def State.takeDeliver (s : State) : State := { s with deliver := s.deliver.tail }

/-- The reset event (70_reset_and_hazards.md R183, R184): every element to its reset value, the FIFOs emptied,
a held command discarded without a response. The inputs from outside, the draws and the schedule, are not
touched. An invalid configuration is refused (R186; log 9). -/
def resetEvent (cfg : Config) (s : State) : Host.Outcome State Fault Refusal :=
  if configValid cfg then
    .next { State.resetWith cfg with schedule := s.schedule, rngS := s.rngS, rngR := s.rngR }
  else .refused .invalidConfiguration

end Sys2Proof.Machine
end

