-- ==== Sys2Proof/Machine/Frame.lean ====
section
/-! DEFINITION. The wire frame and the digest: the functions of the Codec (30_encoding.md R69 to R79,
40_codec.md R99 to R113). They read and write no state (R99). -/

namespace Sys2Proof.Machine

/-- The separator `'|'` (30_encoding.md R72). -/
def sepByte : Byte := 0x7C#8
/-- The sign `'-'` (00_scope.md R13). -/
def minusByte : Byte := 0x2D#8
/-- The digit `'0'` (00_scope.md R13). -/
def zeroByte : Byte := 0x30#8

/-! ### The digest (40_codec.md R102) -/

/-- One of the 8 shifts of the reflected CRC-32 (R102). -/
def crcShift (c : Word) : Word :=
  if c.getLsbD 0 then (c >>> 1) ^^^ 0xEDB88320#32 else c >>> 1

/-- `k` shifts. -/
def crcShifts : Nat → Word → Word
  | 0, c => c
  | k + 1, c => crcShifts k (crcShift c)

/-- The checksum register after one more byte (R102). -/
def crcByte (c : Word) (b : Byte) : Word := crcShifts 8 (c ^^^ b.setWidth 32)

/-- `crc32(B)`, the value of `DIGEST_FN` on this hardware (R102; log 22). -/
def crc32 (p : Bytes) : Word := p.foldl crcByte 0xFFFFFFFF#32 ^^^ 0xFFFFFFFF#32

/-- `verify(P, d)` (40_codec.md R104). -/
def verifyDigest (p : Bytes) (d : Word) : Bool := crc32 p == d

/-! ### Decimal text (40_codec.md R106, R107) -/

/-- The byte of a decimal digit `k < 10` (R107). -/
def digitByte (k : Nat) : Byte := BitVec.ofNat 8 (48 + k)

/-- The base-10 digits of `u`, most significant first, at most `fuel` of them. -/
def digitsOf : Nat → Nat → Bytes
  | 0, _ => []
  | fuel + 1, u => if u < 10 then [digitByte u] else digitsOf fuel (u / 10) ++ [digitByte (u % 10)]

/-- `udec(u)` of a 32-bit unsigned integer: 1 to 10 digits, no leading zero (R107). -/
def udec (u : Word) : Bytes := digitsOf 10 u.toNat

/-- `dec(i)` of a signed 32-bit integer (R106). -/
def sdec (i : Word) : Bytes := if i.msb then minusByte :: udec (-i) else udec i

/-- The text of the `is_ack` field (30_encoding.md R71). -/
def flagText (k : Bool) : Bytes := if k then [0x31#8] else [0x30#8]

/-- `encode(seq, ack, is_ack, P)` (40_codec.md R105). -/
def encodeFrame (seq ack : Word) (isAck : Bool) (p : Bytes) : Bytes :=
  sdec seq ++ sepByte :: (sdec ack ++ sepByte :: (flagText isAck ++ sepByte :: (udec (crc32 p) ++ sepByte :: p)))

/-- The Sender's data frame for sequence bit `b` (30_encoding.md R77). -/
def dataFrame (b : Bool) (p : Bytes) : Bytes := encodeFrame (bitWord b) minusOne false p

/-- The Receiver's ACK frame for sequence bit `n` (30_encoding.md R77, 44_receiver.md R154). -/
def ackFrame (n : Bool) : Bytes := encodeFrame minusOne (bitWord n) true []

/-! ### Parsing (30_encoding.md R70, R73, R74; 40_codec.md R108 to R112) -/

/-- Cuts a byte string at its first separator: the bytes before it and the bytes after it. -/
def cutAtSep : Bytes → Option (Bytes × Bytes)
  | [] => none
  | b :: rest =>
    if b = sepByte then some ([], rest)
    else match cutAtSep rest with
      | none => none
      | some (field, tail) => some (b :: field, tail)

/-- The four header fields and the payload of a frame, split at its first four separators. -/
structure SplitFrame where
  f1 : Bytes
  f2 : Bytes
  f3 : Bytes
  f4 : Bytes
  payload : Bytes
deriving DecidableEq, Repr

/-- The split of a frame at its first four separators; `none` where it has fewer (30_encoding.md R73). -/
def splitFrame (frame : Bytes) : Option SplitFrame :=
  match cutAtSep frame with
  | none => none
  | some (f1, r1) =>
    match cutAtSep r1 with
    | none => none
    | some (f2, r2) =>
      match cutAtSep r2 with
      | none => none
      | some (f3, r3) =>
        match cutAtSep r3 with
        | none => none
        | some (f4, p) => some { f1 := f1, f2 := f2, f3 := f3, f4 := f4, payload := p }

/-- A byte in `0x30..0x39`. -/
def isDigit (b : Byte) : Bool := decide (48 ≤ b.toNat) && decide (b.toNat ≤ 57)

/-- The value of a string of decimal digits in base 10, an exact integer. -/
def digitsValue (g : Bytes) : Nat := g.foldl (fun acc b => 10 * acc + (b.toNat - 48)) 0

/-- 1 to 10 bytes, each a digit (`1*10DIGIT`, 30_encoding.md R70). -/
def isDigits (g : Bytes) : Bool := decide (1 ≤ g.length) && decide (g.length ≤ 10) && g.all isDigit

/-- `parse_int(f)` (40_codec.md R109): an optional `'-'`, 1 to 10 digits, a value of int32. -/
def parseInt (f : Bytes) : Option Word :=
  match f with
  | [] => none
  | b :: g =>
    if b = minusByte then
      if isDigits g && decide (digitsValue g ≤ 2147483648) then some (-(BitVec.ofNat 32 (digitsValue g)))
      else none
    else
      if isDigits f && decide (digitsValue f ≤ 2147483647) then some (BitVec.ofNat 32 (digitsValue f))
      else none

/-- `parse_flag(f)` (40_codec.md R110). -/
def parseFlag (f : Bytes) : Option Bool :=
  if f = [0x30#8] then some false
  else if f = [0x31#8] then some true
  else none

/-- `parse_digest(f)` (40_codec.md R111). -/
def parseDigest (f : Bytes) : Option Word :=
  if isDigits f && decide (digitsValue f ≤ 4294967295) then some (BitVec.ofNat 32 (digitsValue f))
  else none

/-- The packet of a frame, `none` for a malformed one (40_codec.md R108). -/
def parseFrame (frame : Bytes) : Option Packet :=
  match splitFrame frame with
  | none => none
  | some x =>
    match parseInt x.f1, parseInt x.f2, parseFlag x.f3, parseDigest x.f4 with
    | some q, some a, some k, some d =>
      some { seq := q, ack := a, isAck := k, payload := x.payload, digest := d,
             isCorrupt := !verifyDigest x.payload d }
    | _, _, _, _ => none

/-- The sentinel packet `MALFORMED` (40_codec.md R112). -/
def malformedPacket : Packet :=
  { seq := minusOne, ack := minusOne, isAck := false, payload := [], digest := 0#32, isCorrupt := true }

/-- `decode(F)`, total (40_codec.md R108). -/
def decodeFrame (frame : Bytes) : Packet := (parseFrame frame).getD malformedPacket

/-- Whether `decode` returned through a `return MALFORMED` line (40_codec.md R115). -/
def isMalformed (frame : Bytes) : Bool := (parseFrame frame).isNone

end Sys2Proof.Machine
end

