-- ==== Sys2Proof/Machine/Codec.lean ====
section
/-! DEFINITION. The commands of the Codec: `ENC`, `DEC`, `DIG`, `VFY` (40_codec.md R114 to R117). They write
no state but the response. -/

namespace Sys2Proof.Machine

/-- The response of `ENC` for legal values (R85, R114). -/
def encResponse (seq ack : Word) (isAck : Bool) (data : Bytes) : Response :=
  let f := encodeFrame seq ack isAck data
  { status := Status.ok.code, v0 := BitVec.ofNat 32 f.length, v2 := crc32 data, data := f }

/-- `ENC` (R114). A reserved value code answers `ST_BAD_ARG`, check 2 of the check order, before the length
is checked (30_encoding.md R83, R90, R92; DEDUCED placement, log 14, safe). -/
def execEnc (seqCode ackCode : BitVec 2) (isAck : Bool) (data : Bytes) (s : State) :
    Host.Outcome State Fault Refusal :=
  .next (match codeValue seqCode, codeValue ackCode with
    | some seq, some ack =>
      if payloadTooLong s.cfg data then s.refuse .tooLong
      else s.respond (encResponse seq ack isAck data)
    | _, _ => s.refuse .badArg)

/-- The response of `DEC` (R85, R115). -/
def decResponse (data : Bytes) : Response :=
  let p := decodeFrame data
  { status := Status.ok.code, flags := flagsByte p.isAck p.isCorrupt (isMalformed data) false false,
    v0 := p.seq, v1 := p.ack, v2 := p.digest, data := p.payload }

/-- `DEC` (R115). -/
def execDec (data : Bytes) (s : State) : Host.Outcome State Fault Refusal :=
  .next (if frameTooLong s.cfg data then s.refuse .tooLong else s.respond (decResponse data))

/-- `DIG` (R116). -/
def execDig (data : Bytes) (s : State) : Host.Outcome State Fault Refusal :=
  .next (if payloadTooLong s.cfg data then s.refuse .tooLong
    else s.respond { status := Status.ok.code, v2 := crc32 data })

/-- `VFY` (R117). -/
def execVfy (digest : Word) (data : Bytes) (s : State) : Host.Outcome State Fault Refusal :=
  .next (if payloadTooLong s.cfg data then s.refuse .tooLong
    else s.respond
      { status := Status.ok.code, v0 := bitWord (verifyDigest data digest), v2 := crc32 data })

end Sys2Proof.Machine
end

