-- ==== Sys2Proof/Machine/Inject.lean ====
section
/-! DEFINITION. The Fault Injector and the inbound path both FSMs share (41_fault_injector.md R119 to R123,
30_encoding.md R78). -/

namespace Sys2Proof.Machine

/-- The value of the draw `k` places ahead on an input; a free value where it is not known ahead (R120;
log 5). -/
def DrawInput.value (free : Nat → BitVec 16) (d : DrawInput) (k : Nat) : BitVec 16 :=
  match d.ahead[k]? with
  | some v => v
  | none => free (d.taken + k)

/-- An input after `k` draws have been taken from it (R121). -/
def DrawInput.skip (d : DrawInput) (k : Nat) : DrawInput :=
  { ahead := d.ahead.drop k, taken := d.taken + k }

/-- What the injector does with one frame (R121). -/
inductive Verdict where
  | drop
  | pass (forced : Bool)
deriving DecidableEq, Repr

/-- `inject()` on two draws; the comparisons are unsigned (R121). -/
def inject (cfg : Config) (rLoss rCorrupt : BitVec 16) : Verdict :=
  if rLoss.toNat < cfg.pLossQ16 then .drop
  else if rCorrupt.toNat < cfg.pCorruptQ16 then .pass true
  else .pass false

/-- A frame that reached a unit, or did not: `packet.isCorrupt` is final, after the injector's mark. -/
inductive Inbound where
  /-- Dropped before decoding (R122), with the response's flags. -/
  | dropped (flags : BitVec 8)
  /-- Decoded and marked (R123), with the response's flags. -/
  | arrived (packet : Packet) (flags : BitVec 8)
deriving DecidableEq, Repr

/-- Whether an inbound frame is cut to `MAX_FRAME` bytes (30_encoding.md R78). -/
def isTruncated (cfg : Config) (data : Bytes) : Bool := cfg.maxFrame < data.length

/-- The inbound frame the unit processes (30_encoding.md R78). -/
def cutFrame (cfg : Config) (data : Bytes) : Bytes := data.take cfg.maxFrame

/-- The final packet: the decoded one, with `is_corrupt = decode(F).is_corrupt OR forced` (R123). -/
def markPacket (p : Packet) (forced : Bool) : Packet := { p with isCorrupt := p.isCorrupt || forced }

/-- The common beginning of `SND_RX` and `RCV_RX`: truncate, inject, decode, mark (43_sender.md R142,
44_receiver.md R155). -/
def inbound (cfg : Config) (rLoss rCorrupt : BitVec 16) (data : Bytes) : Inbound :=
  match inject cfg rLoss rCorrupt with
  | .drop => .dropped (flagsByte false false false false (isTruncated cfg data))
  | .pass forced =>
    let f := cutFrame cfg data
    let p := markPacket (decodeFrame f) forced
    .arrived p (flagsByte p.isAck p.isCorrupt (isMalformed f) forced (isTruncated cfg data))

/-- What `INJ_S` and the Codec make of a frame for the Sender, on the next two draws of `rng_s`. -/
def State.inboundS (s : State) (data : Bytes) : Inbound :=
  inbound s.cfg (s.rngS.value Config.freeDrawS 0) (s.rngS.value Config.freeDrawS 1) data

/-- What `INJ_R` and the Codec make of a frame for the Receiver, on the next two draws of `rng_r`. -/
def State.inboundR (s : State) (data : Bytes) : Inbound :=
  inbound s.cfg (s.rngR.value Config.freeDrawR 0) (s.rngR.value Config.freeDrawR 1) data

/-- The two draws of one application of `INJ_S` are taken, drop or no drop (R121). -/
def State.takeDrawsS (s : State) : State := { s with rngS := s.rngS.skip 2 }

/-- The two draws of one application of `INJ_R` are taken, drop or no drop (R121). -/
def State.takeDrawsR (s : State) : State := { s with rngR := s.rngR.skip 2 }

end Sys2Proof.Machine
end

