-- ==== Sys2Proof/Machine/Receiver.lean ====
section
/-! DEFINITION. The command of the Receiver (44_receiver.md R153 to R157). -/

namespace Sys2Proof.Machine

/-- The accept path (R156): deliver, ACK, toggle `EXPECTED`. -/
def State.acceptPayload (payload : Bytes) (s : State) : State :=
  let e := s.expected
  let s := s.emitDeliver payload
  let s := s.emitTxR (ackFrame e)
  { s with expected := otherBit e }

/-- The re-ACK path (R157). -/
def State.reAck (s : State) : State := s.emitTxR (ackFrame (otherBit s.expected))

/-- `RCV_RX` (R155). Enabled when the FIFOs its path emits into have room (20_memory.md R61); a command that
is not enabled changes nothing (log 3, log 6). -/
def execRcvRx (data : Bytes) (s : State) : Host.Outcome State Fault Refusal :=
  .next (
    match s.inboundR data with
    | .dropped fl => s.takeDrawsR.respond (droppedResponse fl)
    | .arrived p fl =>
      if !p.isCorrupt && p.seq == bitWord s.expected then
        if hasRoom s.cfg s.deliver && hasRoom s.cfg s.txR then
          (s.takeDrawsR.acceptPayload p.payload).respond (packetResponse .accepted fl p)
        else s
      else
        if hasRoom s.cfg s.txR then s.takeDrawsR.reAck.respond (packetResponse .reacked fl p)
        else s)

end Sys2Proof.Machine
end

