-- ==== Sys2Proof/Machine/Sender.lean ====
section
/-! DEFINITION. The commands of the Sender (43_sender.md R137 to R151). A command that is not enabled,
because a FIFO it would emit into is full, does not happen: it stays on the port and nothing changes
(20_memory.md R61, 45_system.md R162; log 3). -/

namespace Sys2Proof.Machine

/-- The pseudocode of `SND_SEND` in a ready state, up to the response (R139, R141). -/
def State.sendNew (data : Bytes) (s : State) : State :=
  let b := s.sndState.bit
  let f := dataFrame b data
  let s := s.storePending f
  let s := s.transmit f
  { s with sndState := awaitState b, bytesSent := s.bytesSent + BitVec.ofNat 64 data.length }

/-- The response of a `SND_SEND` that transmits (R85, R139). -/
def sentResponse (frame : Bytes) : Response :=
  { status := Status.ok.code, info := Info.sent.code, v0 := BitVec.ofNat 32 frame.length }

/-- `SND_SEND` (R139, R140). -/
def execSndSend (data : Bytes) (s : State) : Host.Outcome State Fault Refusal :=
  .next (
    if payloadTooLong s.cfg data then s.refuse .tooLong
    else if s.shutdown then s.refuse .shutdown
    else if s.sndState.awaiting then s.refuse .busy
    else if hasRoom s.cfg s.txS then
      (s.sendNew data).respond (sentResponse (dataFrame s.sndState.bit data))
    else s)

/-- The match path of `SND_RX` (R144): sample, stop the timer, release the frame, move to `RTS(1-b)`. -/
def State.ackMatched (s : State) : State :=
  let b := s.sndState.bit
  let s := s.rttUpdate s.rttSample
  let s := s.timerStop
  let s := s.releasePending
  { s with sndState := readyState (otherBit b) }

/-- `SND_RX` (R142 to R146). The draws are those of the event that happens: a command held on a full
`TX_S` has taken none (DEDUCED, log 6, safe). -/
def execSndRx (data : Bytes) (s : State) : Host.Outcome State Fault Refusal :=
  .next (
    if s.shutdown then s.refuse .shutdown
    else match s.inboundS data with
      | .dropped fl => s.takeDrawsS.respond (droppedResponse fl)
      | .arrived p fl =>
        if p.isCorrupt || !p.isAck then s.takeDrawsS.respond (packetResponse .discarded fl p)
        else if !s.sndState.awaiting then s.takeDrawsS.respond (packetResponse .ignored fl p)
        else if p.ack = bitWord s.sndState.bit then
          s.takeDrawsS.ackMatched.respond (packetResponse .ackMatch fl p)
        else if hasRoom s.cfg s.txS then
          (s.takeDrawsS.transmit s.pendingFrame).respond (packetResponse .ackMismatch fl p)
        else s)

/-- `SND_TIMEOUT` (R148). -/
def execSndTimeout (s : State) : Host.Outcome State Fault Refusal :=
  .next (
    if s.shutdown then s.refuse .shutdown
    else if s.timeoutEmits && !hasRoom s.cfg s.txS then s
    else s.onTimeout.1.respond { status := Status.ok.code, info := s.onTimeout.2.code })

/-- `SND_READY` (R149). -/
def execSndReady (s : State) : Host.Outcome State Fault Refusal :=
  .next (s.respond { status := Status.ok.code, v0 := bitWord s.sndReady })

/-- `SND_SHUTDOWN` (R150). It is idempotent as R150 says, where 20_memory.md R58 lists it among the commands that
are not: DESIGN CHOICE, unsafe (log 25). -/
def execSndShutdown (s : State) : Host.Outcome State Fault Refusal :=
  .next (State.respond { status := Status.ok.code } { s with shutdown := true })

end Sys2Proof.Machine
end

