-- ==== Sys2Proof/Machine/System.lean ====
section
/-! DEFINITION. `CSR_RD` and the CSR map (45_system.md R159, 10_state.md R28 to R46). -/

namespace Sys2Proof.Machine

/-- `CSR_SND_STATE`: `SND_STATE`, `SHUTDOWN`, `PEND_VALID`, `READY` in bits 1:0, 2, 3, 4 (10_state.md R34). -/
def csrSndState (s : State) : Word :=
  0#27 ++ BitVec.ofBool s.sndReady ++ BitVec.ofBool s.pendValid ++ BitVec.ofBool s.shutdown ++ s.sndState.code

/-- `CSR_TMR_CTRL`: `TMR_ARMED` in bit 0, `TMR_PEND` in bit 1 (10_state.md R29, R43). -/
def csrTmrCtrl (s : State) : Word := 0#30 ++ BitVec.ofBool s.tmrPend ++ BitVec.ofBool s.tmrArmed

/-- The CSR map (10_state.md R29); `none` for an unassigned number (R31). R29 lists 18 numbers where
20_memory.md R54 counts 22: the model follows R29, DESIGN CHOICE, unsafe (log 24). -/
def csrValue (s : State) (n : BitVec 8) : Option Word :=
  if n = 0x00#8 then some 0x52445433#32
  else if n = 0x01#8 then some (csrSndState s)
  else if n = 0x02#8 then some s.estTimeout
  else if n = 0x03#8 then some s.sendTs
  else if n = 0x04#8 then some (s.bytesSent.extractLsb' 0 32)
  else if n = 0x05#8 then some (s.bytesSent.extractLsb' 32 32)
  else if n = 0x06#8 then some (csrTmrCtrl s)
  else if n = 0x07#8 then some s.tmrCount
  else if n = 0x08#8 then some s.now
  else if n = 0x09#8 then some s.lastRtt
  else if n = 0x0A#8 then some (s.pendLen.setWidth 32)
  else if n = 0x0B#8 then some (bitWord s.expected)
  else if n = 0x10#8 then some (BitVec.ofNat 32 s.cfg.initTimeout)
  else if n = 0x11#8 then some (BitVec.ofNat 32 s.cfg.alphaQ8)
  else if n = 0x12#8 then some (BitVec.ofNat 32 s.cfg.pLossQ16)
  else if n = 0x13#8 then some (BitVec.ofNat 32 s.cfg.pCorruptQ16)
  else if n = 0x14#8 then some (BitVec.ofNat 32 s.cfg.maxFrame)
  else if n = 0x15#8 then some (BitVec.ofNat 32 s.cfg.outDepth)
  else none

/-- `CSR_RD` (45_system.md R159). -/
def execCsrRd (csr : BitVec 8) (s : State) : Host.Outcome State Fault Refusal :=
  .next (match csrValue s csr with
    | some v => s.respond { status := Status.ok.code, v0 := v }
    | none => s.refuse .badCsr)

end Sys2Proof.Machine
end

