-- ==== Sys2Proof/Machine/Dispatch.lean ====
section
/-! DEFINITION. The meaning of each command: one arm per constructor of `Instr`. -/

namespace Sys2Proof.Machine

def exec (i : Instr) (s : State) : Host.Outcome State Fault Refusal :=
  match i with
  | .enc seqCode ackCode isAck data => Sys2Proof.Machine.execEnc seqCode ackCode isAck data s
  | .dec data => Sys2Proof.Machine.execDec data s
  | .dig data => Sys2Proof.Machine.execDig data s
  | .vfy digest data => Sys2Proof.Machine.execVfy digest data s
  | .sndSend data => Sys2Proof.Machine.execSndSend data s
  | .sndRx data => Sys2Proof.Machine.execSndRx data s
  | .sndTimeout => Sys2Proof.Machine.execSndTimeout s
  | .sndReady => Sys2Proof.Machine.execSndReady s
  | .sndShutdown => Sys2Proof.Machine.execSndShutdown s
  | .rcvRx data => Sys2Proof.Machine.execRcvRx data s
  | .csrRd csr => Sys2Proof.Machine.execCsrRd csr s

end Sys2Proof.Machine
end

