-- ==== Sys2Proof/Machine/Port.lean ====
section
/-! DEFINITION. The command port: reading the command that waits there, and taking it (30_encoding.md R90,
45_system.md R160, R162). -/

namespace Sys2Proof.Machine

/-- What the engine reads on the command port. -/
def fetch (s : State) : Option Decoded := s.port.map decode

/-- The engine takes the command on the port: a tuple that spells no command is refused with its status (R90,
R160), any other runs. Nothing happens on an empty port. -/
def acceptCommand (s : State) : Host.Outcome State Fault Refusal :=
  match fetch s with
  | none => .next s
  | some (.reject r) => .next (s.refuse (rejectStatus r))
  | some (.instr i) => exec i s

end Sys2Proof.Machine
end

