-- ==== Sys2Proof/Machine/Step.lean ====
section
/-! DEFINITION. One step: the next event of the schedule is taken, one atomic event a step (20_memory.md R66). -/

namespace Sys2Proof.Machine

/-- The effect of one event (60_exceptions.md R166). -/
def takeEvent (e : Event) (s : State) : Host.Outcome State Fault Refusal :=
  match e with
  | .present c => .next (s.present c)
  | .accept => acceptCommand s
  | .tick => .next s.tick
  | .expire => .next s.expire
  | .takeTxS => .next s.takeTxS
  | .takeTxR => .next s.takeTxR
  | .takeDeliver => .next s.takeDeliver
  | .reset cfg => resetEvent cfg s

/-- One step. The schedule, an open choice (60_exceptions.md R169), says which event is next (log 2); with
nothing scheduled nothing happens (DESIGN CHOICE, log 4, safe). -/
def step (s : State) : Host.Outcome State Fault Refusal :=
  match s.schedule with
  | [] => .next s
  | e :: rest => takeEvent e { s with schedule := rest }

/-- `s` with the command of an opcode-table word on the command port, to be taken in the very next step
(log 12). -/
def State.withFetchWord (s : State) (nbits w : Nat) : State :=
  { s with port := some (commandOfWord nbits w), schedule := .accept :: s.schedule }

end Sys2Proof.Machine
end

