-- ==== Sys2Proof/Safety.lean ====
section
/-! DEFINITION. What counts as a safe run, in the terms the statements use: the invariant of a reachable state,
the frame grammar of 30_encoding.md R70 and R74 as a relation, runs of ticks, the events of the two units for
20_memory.md R64, and the history of accepted frames of 44_receiver.md R158. -/

namespace Sys2Proof.Machine

/-! ### The invariant -/

/-- What every reachable state satisfies. -/
structure State.Inv (s : State) : Prop where
  /-- The configuration is valid (70_reset_and_hazards.md R185). -/
  cfgValid : configValid s.cfg = true
  /-- `TMR_ARMED` and `TMR_PEND` are never both 1 (10_state.md R43). -/
  timerExclusive : s.tmrArmed = true → s.tmrPend = false
  /-- An armed timer has a tick left (42_timer_rtt.md R127). -/
  armedCounts : s.tmrArmed = true → s.tmrCount ≠ 0#32
  /-- The timer is live only while the Sender awaits an ACK (10_state.md R49). -/
  timerLive : s.tmrArmed = true ∨ s.tmrPend = true → s.sndState.awaiting = true
  /-- `PEND_VALID = SND_STATE[1]` (10_state.md R50). -/
  pendValidAwaiting : s.pendValid = s.sndState.awaiting
  /-- A held frame is the encoding of the message being sent (10_state.md R50). -/
  pendingIsDataFrame : s.pendValid = true →
    ∃ p : Bytes, p.length ≤ maxPayload s.cfg ∧ s.pendingFrame = dataFrame s.sndState.bit p
      ∧ s.pendLen.toNat = (dataFrame s.sndState.bit p).length
  /-- No frame held, no length (10_state.md R41). -/
  noPendingLength : s.pendValid = false → s.pendLen = 0#16
  /-- `PEND_BUF` has `MAX_FRAME` bytes (10_state.md R47). -/
  pendBufSize : s.pendBuf.length = s.cfg.maxFrame
  /-- `EST_TIMEOUT` is in `1 .. 2^32-1` (10_state.md R38). -/
  estPositive : s.estTimeout ≠ 0#32
  /-- No FIFO is over its depth (20_memory.md R60, R61). -/
  txSDepth : s.txS.length ≤ s.cfg.outDepth
  txRDepth : s.txR.length ≤ s.cfg.outDepth
  deliverDepth : s.deliver.length ≤ s.cfg.outDepth
  /-- Every entry of `TX_S` is a data frame (30_encoding.md R77). -/
  txSFrames : ∀ f ∈ s.txS, ∃ (b : Bool) (p : Bytes), f = dataFrame b p
  /-- Every entry of `TX_R` is an ACK frame (30_encoding.md R77). -/
  txRFrames : ∀ f ∈ s.txR, ∃ n : Bool, f = ackFrame n

/-! ### The frame grammar (30_encoding.md R70, R74) -/

/-- `1*10DIGIT` (R70). -/
def DigitString (g : Bytes) : Prop :=
  1 ≤ g.length ∧ g.length ≤ 10 ∧ ∀ b ∈ g, 0x30 ≤ b.toNat ∧ b.toNat ≤ 0x39

/-- The sum over `j` of `(g[j] - 0x30) * 10^(len(g)-1-j)` (40_codec.md R109, R111). -/
def decimalValue : Bytes → Nat
  | [] => 0
  | b :: g => (b.toNat - 0x30) * 10 ^ g.length + decimalValue g

/-- `f` is a `seqf` or `ackf` text with the int32 value `v` (R70, R74). -/
def IntField (f : Bytes) (v : Int) : Prop :=
  ∃ (neg : Bool) (g : Bytes),
    f = (if neg then [0x2D#8] else []) ++ g ∧ DigitString g
      ∧ v = (if neg then -(decimalValue g : Int) else (decimalValue g : Int))
      ∧ -2147483648 ≤ v ∧ v ≤ 2147483647

/-- `f` is a `flagf` text with the value `k` (R70). -/
def FlagField (f : Bytes) (k : Bool) : Prop := f = if k then [0x31#8] else [0x30#8]

/-- `f` is a `digf` text with the uint32 value `d` (R70, R74). -/
def DigestField (f : Bytes) (d : Word) : Prop := DigitString f ∧ decimalValue f = d.toNat

/-- `frame` is a well-formed frame whose fields are those of `p` (R70, R71, R74). -/
def FrameGrammar (frame : Bytes) (p : Packet) : Prop :=
  ∃ f1 f2 f3 f4 : Bytes,
    frame = f1 ++ 0x7C#8 :: (f2 ++ 0x7C#8 :: (f3 ++ 0x7C#8 :: (f4 ++ 0x7C#8 :: p.payload)))
      ∧ IntField f1 p.seq.toInt ∧ IntField f2 p.ack.toInt ∧ FlagField f3 p.isAck ∧ DigestField f4 p.digest

/-! ### The draws a frame meets (41_fault_injector.md R121) -/

/-- The next draw of `rng_s`, `r_loss` of the next frame for the Sender. -/
def State.lossDrawS (s : State) : Nat := (s.rngS.value Config.freeDrawS 0).toNat
/-- The draw of `rng_s` after it, `r_corrupt` of the next frame for the Sender. -/
def State.corruptDrawS (s : State) : Nat := (s.rngS.value Config.freeDrawS 1).toNat
/-- The next draw of `rng_r`, `r_loss` of the next frame for the Receiver. -/
def State.lossDrawR (s : State) : Nat := (s.rngR.value Config.freeDrawR 0).toNat
/-- The draw of `rng_r` after it, `r_corrupt` of the next frame for the Receiver. -/
def State.corruptDrawR (s : State) : Nat := (s.rngR.value Config.freeDrawR 1).toNat

/-- `INJ_S` drops the next frame. -/
def State.dropsS (s : State) : Bool := s.lossDrawS < s.cfg.pLossQ16
/-- `INJ_S` passes the next frame without a mark. -/
def State.cleanS (s : State) : Bool := !s.dropsS && decide (s.cfg.pCorruptQ16 ≤ s.corruptDrawS)
/-- `INJ_S` passes the next frame and marks it corrupt. -/
def State.forcesS (s : State) : Bool := !s.dropsS && decide (s.corruptDrawS < s.cfg.pCorruptQ16)
/-- `INJ_R` drops the next frame. -/
def State.dropsR (s : State) : Bool := s.lossDrawR < s.cfg.pLossQ16
/-- `INJ_R` passes the next frame without a mark. -/
def State.cleanR (s : State) : Bool := !s.dropsR && decide (s.cfg.pCorruptQ16 ≤ s.corruptDrawR)
/-- `INJ_R` passes the next frame and marks it corrupt. -/
def State.forcesR (s : State) : Bool := !s.dropsR && decide (s.corruptDrawR < s.cfg.pCorruptQ16)

/-! ### Runs of ticks (42_timer_rtt.md R127) -/

/-- `n` tick events in a row. -/
def State.ticks : Nat → State → State
  | 0, s => s
  | n + 1, s => State.ticks n s.tick

/-! ### The events of the two units (20_memory.md R64) -/

/-- An event of one unit. -/
inductive UnitEvent where
  | command (i : Instr)
  | tick
  | expire
  | takeTxS
  | takeTxR
  | takeDeliver
deriving DecidableEq, Repr

/-- The Sender's commands (30_encoding.md R89). -/
def isSenderCommand : Instr → Bool
  | .enc _ _ _ _ => false
  | .dec _ => false
  | .dig _ => false
  | .vfy _ _ => false
  | .sndSend _ => true
  | .sndRx _ => true
  | .sndTimeout => true
  | .sndReady => true
  | .sndShutdown => true
  | .rcvRx _ => false
  | .csrRd _ => false

/-- The Receiver's command (30_encoding.md R89). -/
def isReceiverCommand : Instr → Bool
  | .enc _ _ _ _ => false
  | .dec _ => false
  | .dig _ => false
  | .vfy _ _ => false
  | .sndSend _ => false
  | .sndRx _ => false
  | .sndTimeout => false
  | .sndReady => false
  | .sndShutdown => false
  | .rcvRx _ => true
  | .csrRd _ => false

/-- The events on the Sender's side; a tick is one (R64). -/
def UnitEvent.isSender : UnitEvent → Bool
  | .command i => isSenderCommand i
  | .tick => true
  | .expire => true
  | .takeTxS => true
  | .takeTxR => false
  | .takeDeliver => false

/-- The events on the Receiver's side (R64). -/
def UnitEvent.isReceiver : UnitEvent → Bool
  | .command i => isReceiverCommand i
  | .tick => false
  | .expire => false
  | .takeTxS => false
  | .takeTxR => true
  | .takeDeliver => true

/-- A command offered on a free port: the state after it with the port and the response register cleared, and
the response, `none` where the command is held. -/
def offer (i : Instr) (s : State) : State × Option Response :=
  match exec i { s with port := some (encode i), resp := none } with
  | .next t => ({ t with port := none, resp := none }, t.resp)
  | .fault _ => (s, none)
  | .refused _ => (s, none)

/-- One event of a unit on a free port: the state after it, and the response of a command. -/
def UnitEvent.occur (e : UnitEvent) (s : State) : State × Option Response :=
  match e with
  | .command i => offer i s
  | .tick => (s.tick, none)
  | .expire => (s.expire, none)
  | .takeTxS => (s.takeTxS, none)
  | .takeTxR => (s.takeTxR, none)
  | .takeDeliver => (s.takeDeliver, none)

/-! ### The history of accepted frames (44_receiver.md R158) -/

/-- The `seq` values that the responses report for the frames delivered in the next `n` steps, oldest first. -/
def acceptedSeqs : Nat → State → List Word
  | 0, _ => []
  | n + 1, s =>
    match step s with
    | .next t =>
      if s.deliver.length < t.deliver.length then
        match t.resp with
        | some r => r.v0 :: acceptedSeqs n t
        | none => minusOne :: acceptedSeqs n t
      else acceptedSeqs n t
    | .fault _ => []
    | .refused _ => []

/-- `n` values that alternate, the first one `b`: 0, 1, 0, 1, … or 1, 0, 1, 0, …. -/
def alternating : Nat → Bool → List Word
  | 0, _ => []
  | n + 1, b => bitWord b :: alternating n (!b)

end Sys2Proof.Machine
end

