-- ==== Sys2Proof/Certificates/Slice0/Obligations.lean ====
section
/-! DEFINITION. The statements for the provers. Codes of statuses and outcomes are written out as the numbers of
30_encoding.md R86 and R87. A statement whose conclusion is an equation `exec i s = .next t` is the completion
statement of `i` and its whole frame: what `t` does not name is as in `s`. -/

open Sys2Proof Sys2Proof.Machine

/-! ### Encoding and the step -/

/-- Every bit of an encoding is read back (30_encoding.md R80 to R84, R89). -/
def Obligations.DecodeAfterEncodeGivesTheInstruction : Prop :=
  ∀ i : Instr, i.wellFormed = true → decode (encode i) = .instr i ∧ (encode i).wellFormed = true

/-- A command has one encoding: reserved bits and stray data do not decode (30_encoding.md R81, R92, R93). -/
def Obligations.EncodeAfterDecodeGivesTheCommand : Prop :=
  ∀ (c : Command) (i : Instr), decode c = .instr i → encode i = c

/-- A few command words written out from 30_encoding.md R80, R82, R84, R89, R97. That a word, which has no bits for
`DATA`, is read with empty data is the model's choice (log 21). -/
def Obligations.SampleCommandWordsDecode : Prop :=
  decodeTableWord 40 0x0100000013 = some (.enc 0b11#2 0b00#2 true [])
    ∧ decodeTableWord 40 0x043610A686 = some (.vfy 907060870#32 [])
    ∧ decodeTableWord 40 0x1000000000 = some (.sndSend [])
    ∧ decodeTableWord 40 0x1100000000 = some (.sndRx [])
    ∧ decodeTableWord 40 0x2000000000 = some (.rcvRx [])
    ∧ decodeTableWord 40 0x3000000001 = some (.csrRd 0x01#8)
    ∧ decodeTableWord 40 0x0000000000 = none

/-- `ARG` and `DATA` are not examined; every other field of the response is zero; nothing else changes (R160). -/
def Obligations.UnassignedOpcodeAnswersIllegal : Prop :=
  ∀ (s : State) (c : Command), s.port = some c →
    c.opc ∉ [0x01#8, 0x02#8, 0x03#8, 0x04#8, 0x10#8, 0x11#8, 0x12#8, 0x13#8, 0x14#8, 0x20#8, 0x30#8] →
    acceptCommand s = .next { s with port := none, resp := some { status := 0x05#8 } }

/-- Reserved `ARG` bits, the reserved value code of `ENC` and data on formats N and A answer `ST_BAD_ARG` (0x03)
with no effect, whatever the data's length and the Sender's mode (30_encoding.md R90, R92, R93). -/
def Obligations.ReservedArgumentOrStrayDataAnswersBadArg : Prop :=
  ∀ (s : State) (c : Command), s.port = some c →
    ((c.opc = 0x01#8 ∧ (c.arg.toNat / 32 ≠ 0 ∨ c.arg.extractLsb' 0 2 = 0b10#2 ∨ c.arg.extractLsb' 2 2 = 0b10#2))
      ∨ (c.opc ∈ [0x02#8, 0x03#8, 0x10#8, 0x11#8, 0x20#8] ∧ c.arg ≠ 0#32)
      ∨ (c.opc ∈ [0x12#8, 0x13#8, 0x14#8] ∧ (c.arg ≠ 0#32 ∨ c.data ≠ []))
      ∨ (c.opc = 0x30#8 ∧ (c.arg.toNat / 256 ≠ 0 ∨ c.data ≠ []))) →
    acceptCommand s = .next { s with port := none, resp := some { status := 0x03#8 } }

/-- A step whose event is `accept` is `acceptCommand` at the state with that event removed from the schedule, for a
waiting tuple that does not decode too; where it decodes, that is `exec` of the decoded command. Nothing else is done
around it (20_memory.md R66, 45_system.md R162). -/
def Obligations.StepRunsTheDecodedCommand : Prop :=
  ∀ (s : State) (rest : List Event), s.schedule = .accept :: rest →
    step s = acceptCommand { s with schedule := rest }
    ∧ ∀ (c : Command) (i : Instr), s.port = some c → decode c = .instr i →
        step s = exec i { s with schedule := rest }

/-- What a step does with each other event but reset, and with none (60_exceptions.md R166). The form is the model's
choice: the schedule (log 2, log 4), the presenting and accepting of a command and what an event that is not enabled
does, a present on an occupied port or an accept on an empty one (log 3, log 11), and the response register, which
presenting clears (log 10). -/
def Obligations.StepTakesTheScheduledEvent : Prop :=
  ∀ (s : State) (rest : List Event),
    (s.schedule = [] → step s = .next s)
    ∧ (s.schedule = .tick :: rest → step s = .next (State.tick { s with schedule := rest }))
    ∧ (s.schedule = .expire :: rest → step s = .next (State.expire { s with schedule := rest }))
    ∧ (s.schedule = .takeTxS :: rest → step s = .next { s with schedule := rest, txS := s.txS.tail })
    ∧ (s.schedule = .takeTxR :: rest → step s = .next { s with schedule := rest, txR := s.txR.tail })
    ∧ (s.schedule = .takeDeliver :: rest → step s = .next { s with schedule := rest, deliver := s.deliver.tail })
    ∧ (s.schedule = .accept :: rest → s.port = none → step s = .next { s with schedule := rest })
    ∧ (∀ c : Command, s.schedule = .present c :: rest → s.port = none →
        step s = .next { s with schedule := rest, port := some c, resp := none })
    ∧ (∀ c d : Command, s.schedule = .present c :: rest → s.port = some d →
        step s = .next { s with schedule := rest })

/-- `withFetchWord` makes the very next step run the word's command (log 12), which the model reads with empty data
(log 21). -/
def Obligations.PresentedWordRunsNext : Prop :=
  ∀ (s : State) (w : Nat) (i : Instr), decodeTableWord 40 w = some i →
    step (s.withFetchWord 40 w) = exec i { s with port := some (commandOfWord 40 w) }

/-- No command and no event raises an exception, traps or halts (R164): every step gives a next state, but for a
reset with an invalid configuration, which is refused (70_reset_and_hazards.md R186; log 9). -/
def Obligations.NoStepFaults : Prop :=
  ∀ s : State,
    (∃ t, step s = .next t)
    ∨ ∃ (cfg : Config) (rest : List Event), s.schedule = .reset cfg :: rest ∧ configValid cfg = false
        ∧ step s = .refused .invalidConfiguration

/-! ### Codec -/

/-- `ENC` of legal value codes (40_codec.md R114; 30_encoding.md R83, R85). -/
def Obligations.EncAnswersTheFrame : Prop :=
  ∀ (s : State) (seqCode ackCode : BitVec 2) (isAck : Bool) (data : Bytes),
    seqCode ≠ 0b10#2 → ackCode ≠ 0b10#2 → data.length ≤ maxPayload s.cfg →
    exec (.enc seqCode ackCode isAck data) s
      = .next { s with
          port := none
          resp := some
            { status := 0x00#8
              v0 := BitVec.ofNat 32
                (encodeFrame (seqCode.signExtend 32) (ackCode.signExtend 32) isAck data).length
              v2 := crc32 data
              data := encodeFrame (seqCode.signExtend 32) (ackCode.signExtend 32) isAck data } }

/-- `DEC` (40_codec.md R115): the decoded packet, whatever it is. -/
def Obligations.DecAnswersThePacket : Prop :=
  ∀ (s : State) (data : Bytes), data.length ≤ s.cfg.maxFrame →
    exec (.dec data) s
      = .next { s with
          port := none
          resp := some
            { status := 0x00#8
              flags := flagsByte (decodeFrame data).isAck (decodeFrame data).isCorrupt
                (parseFrame data).isNone false false
              v0 := (decodeFrame data).seq
              v1 := (decodeFrame data).ack
              v2 := (decodeFrame data).digest
              data := (decodeFrame data).payload } }

/-- `DIG` (40_codec.md R116). -/
def Obligations.DigAnswersTheDigest : Prop :=
  ∀ (s : State) (data : Bytes), data.length ≤ maxPayload s.cfg →
    exec (.dig data) s = .next { s with port := none, resp := some { status := 0x00#8, v2 := crc32 data } }

/-- `VFY` (40_codec.md R104, R117). -/
def Obligations.VfyComparesTheDigest : Prop :=
  ∀ (s : State) (digest : Word) (data : Bytes), data.length ≤ maxPayload s.cfg →
    exec (.vfy digest data) s
      = .next { s with
          port := none
          resp := some
            { status := 0x00#8, v0 := if crc32 data = digest then 1#32 else 0#32, v2 := crc32 data } }

/-- Data over its limit answers `ST_TOO_LONG` (0x02) and changes nothing, before any check of the Sender's mode
(30_encoding.md R78, R90). -/
def Obligations.TooLongDataIsRefused : Prop :=
  ∀ (s : State) (data : Bytes),
    (s.cfg.maxFrame < data.length →
      exec (.dec data) s = .next { s with port := none, resp := some { status := 0x02#8 } })
    ∧ (s.cfg.maxFrame - 19 < data.length →
      exec (.dig data) s = .next { s with port := none, resp := some { status := 0x02#8 } }
      ∧ (∀ d : Word, exec (.vfy d data) s = .next { s with port := none, resp := some { status := 0x02#8 } })
      ∧ exec (.sndSend data) s = .next { s with port := none, resp := some { status := 0x02#8 } }
      ∧ (∀ (a b : BitVec 2) (k : Bool), a ≠ 0b10#2 → b ≠ 0b10#2 →
          exec (.enc a b k data) s = .next { s with port := none, resp := some { status := 0x02#8 } }))

/-- The check value and the value of the empty string (40_codec.md R103). -/
def Obligations.CrcKnownValues : Prop :=
  crc32 [] = 0#32
    ∧ crc32 [0x31#8, 0x32#8, 0x33#8, 0x34#8, 0x35#8, 0x36#8, 0x37#8, 0x38#8, 0x39#8] = 3421780262#32
    ∧ crc32 [0x68#8, 0x65#8, 0x6C#8, 0x6C#8, 0x6F#8] = 907060870#32

/-- The property `one_byte` of the digest (40_codec.md R101, R103). -/
def Obligations.CrcDetectsOneChangedByte : Prop :=
  ∀ (p q : Bytes) (k : Nat), p.length = q.length → k < p.length → p[k]? ≠ q[k]? →
    (∀ j, j ≠ k → p[j]? = q[j]?) → crc32 p ≠ crc32 q

/-- Law 1 of the Codec (40_codec.md R118), for every 32-bit `seq` and `ack` and every payload. -/
def Obligations.FrameRoundTrip : Prop :=
  ∀ (seq ack : Word) (isAck : Bool) (p : Bytes),
    parseFrame (encodeFrame seq ack isAck p)
      = some { seq := seq, ack := ack, isAck := isAck, payload := p, digest := crc32 p, isCorrupt := false }

/-- Law 2 of the Codec (40_codec.md R118): one changed payload byte is always detected. -/
def Obligations.PayloadMutationIsCorrupt : Prop :=
  ∀ (seq ack : Word) (isAck : Bool) (p frame : Bytes) (k : Nat),
    frame.length = (encodeFrame seq ack isAck p).length →
    frame.length - p.length ≤ k → k < frame.length →
    frame[k]? ≠ (encodeFrame seq ack isAck p)[k]? →
    (∀ j, j ≠ k → frame[j]? = (encodeFrame seq ack isAck p)[j]?) →
    (decodeFrame frame).isCorrupt = true ∧ isMalformed frame = false

/-- The decoder accepts exactly the grammar of 30_encoding.md R70 and R74, and recomputes the digest
(40_codec.md R108, R113). -/
def Obligations.ParserAcceptsExactlyTheGrammar : Prop :=
  ∀ (frame : Bytes) (p : Packet),
    parseFrame frame = some p ↔ FrameGrammar frame p ∧ p.isCorrupt = !(crc32 p.payload == p.digest)

/-- A frame that does not parse decodes to the sentinel packet (40_codec.md R112). -/
def Obligations.MalformedFrameDecodesToTheSentinel : Prop :=
  ∀ frame : Bytes, isMalformed frame = true →
    decodeFrame frame
      = { seq := 0xFFFFFFFF#32, ack := 0xFFFFFFFF#32, isAck := false, payload := [], digest := 0#32,
          isCorrupt := true }

/-- `encode` of a payload within `MAX_PAYLOAD` fits in `MAX_FRAME`; its header is 8 to 19 bytes for values −1, 0
and 1 (30_encoding.md R76, R78). -/
def Obligations.EncodedFrameFits : Prop :=
  ∀ (cfg : Config) (seq ack : Word) (isAck : Bool) (p : Bytes),
    seq ∈ [0#32, 1#32, 0xFFFFFFFF#32] → ack ∈ [0#32, 1#32, 0xFFFFFFFF#32] →
    p.length + 8 ≤ (encodeFrame seq ack isAck p).length
      ∧ (encodeFrame seq ack isAck p).length ≤ p.length + 19
      ∧ (19 ≤ cfg.maxFrame → p.length ≤ maxPayload cfg →
          (encodeFrame seq ack isAck p).length ≤ cfg.maxFrame)

/-- The two ACK frames are `-1|0|1|0|` and `-1|1|1|0|` (44_receiver.md R154, with the CRC-32 of log 22). -/
def Obligations.AckFramesAreNineBytes : Prop :=
  ackFrame false = [0x2D#8, 0x31#8, 0x7C#8, 0x30#8, 0x7C#8, 0x31#8, 0x7C#8, 0x30#8, 0x7C#8]
    ∧ ackFrame true = [0x2D#8, 0x31#8, 0x7C#8, 0x31#8, 0x7C#8, 0x31#8, 0x7C#8, 0x30#8, 0x7C#8]

/-- The bits of the `flags` byte (30_encoding.md R88). -/
def Obligations.FlagsByteLayout : Prop :=
  ∀ isAck corrupt malformed forced truncated : Bool,
    flagsByte isAck corrupt malformed forced truncated
      = BitVec.ofNat 8 (isAck.toNat + 2 * corrupt.toNat + 4 * malformed.toNat + 8 * forced.toNat
          + 16 * truncated.toNat)

/-! ### Fault Injector -/

/-- The verdict of `inject()` on its two draws (41_fault_injector.md R121). -/
def Obligations.InjectorVerdict : Prop :=
  ∀ (cfg : Config) (rLoss rCorrupt : BitVec 16),
    (rLoss.toNat < cfg.pLossQ16 → inject cfg rLoss rCorrupt = .drop)
    ∧ (cfg.pLossQ16 ≤ rLoss.toNat → rCorrupt.toNat < cfg.pCorruptQ16 → inject cfg rLoss rCorrupt = .pass true)
    ∧ (cfg.pLossQ16 ≤ rLoss.toNat → cfg.pCorruptQ16 ≤ rCorrupt.toNat → inject cfg rLoss rCorrupt = .pass false)
    ∧ (cfg.pLossQ16 = 65536 → inject cfg rLoss rCorrupt = .drop)

/-- The injector only adds corruption, and changes no byte (41_fault_injector.md R123). -/
def Obligations.InjectorOnlyAddsCorruption : Prop :=
  ∀ (cfg : Config) (rLoss rCorrupt : BitVec 16) (data : Bytes) (forced : Bool),
    inject cfg rLoss rCorrupt = .pass forced →
    inbound cfg rLoss rCorrupt data
      = .arrived
          { decodeFrame (data.take cfg.maxFrame) with
            isCorrupt := (decodeFrame (data.take cfg.maxFrame)).isCorrupt || forced }
          (flagsByte (decodeFrame (data.take cfg.maxFrame)).isAck
            ((decodeFrame (data.take cfg.maxFrame)).isCorrupt || forced)
            (parseFrame (data.take cfg.maxFrame)).isNone forced (decide (cfg.maxFrame < data.length)))

/-- A dropped frame: two draws are taken, and nothing else but the response changes, for both units
(41_fault_injector.md R122, 43_sender.md R142, 44_receiver.md R155). -/
def Obligations.DroppedFrameChangesNothing : Prop :=
  ∀ (s : State) (data : Bytes),
    (s.shutdown = false → s.dropsS = true →
      exec (.sndRx data) s
        = .next { s with
            rngS := { ahead := s.rngS.ahead.drop 2, taken := s.rngS.taken + 2 }
            port := none
            resp := some
              { status := 0x00#8, info := 0x01#8, flags := if s.cfg.maxFrame < data.length then 0x10#8 else 0#8 } })
    ∧ (s.dropsR = true →
      exec (.rcvRx data) s
        = .next { s with
            rngR := { ahead := s.rngR.ahead.drop 2, taken := s.rngR.taken + 2 }
            port := none
            resp := some
              { status := 0x00#8, info := 0x01#8, flags := if s.cfg.maxFrame < data.length then 0x10#8 else 0#8 } })

/-! ### Timer and RTT Estimator -/

/-- `timer_start()` arms with the current estimate, `timer_stop()` disarms; both cancel a latched expiry, and neither
touches anything else (42_timer_rtt.md R126, R129). -/
def Obligations.TimerStartArmsAndStopDisarms : Prop :=
  ∀ s : State,
    s.timerStart = { s with tmrCount := s.estTimeout, tmrArmed := true, tmrPend := false }
      ∧ s.timerStop = { s with tmrCount := 0#32, tmrArmed := false, tmrPend := false }

/-- The tick event and its frame, for a timer that is off or has a tick left (42_timer_rtt.md R127). -/
def Obligations.TickCountsDown : Prop :=
  ∀ s : State, s.tick.now.toNat = (s.now.toNat + 1) % 4294967296
    ∧ (s.tmrArmed = false → s.tick = { s with now := s.now + 1#32 })
    ∧ (s.tmrArmed = true → 2 ≤ s.tmrCount.toNat →
        s.tick = { s with now := s.now + 1#32, tmrCount := BitVec.ofNat 32 (s.tmrCount.toNat - 1) })
    ∧ (s.tmrArmed = true → s.tmrCount.toNat = 1 →
        s.tick = { s with now := s.now + 1#32, tmrCount := 0#32, tmrArmed := false, tmrPend := true })

/-- A timer armed by an event expires at the `EST_TIMEOUT`-th tick after it, and not before (42_timer_rtt.md
R127). -/
def Obligations.TimerExpiresAtTheEstTimeoutTick : Prop :=
  ∀ (s : State) (n : Nat), s.tmrArmed = true → s.tmrPend = false → s.tmrCount ≠ 0#32 →
    (n < s.tmrCount.toNat →
      (s.ticks n).tmrArmed = true ∧ (s.ticks n).tmrPend = false
        ∧ (s.ticks n).tmrCount.toNat = s.tmrCount.toNat - n)
    ∧ (s.tmrCount.toNat ≤ n → (s.ticks n).tmrArmed = false ∧ (s.ticks n).tmrPend = true)

/-- The EWMA step does not overflow 32 bits, and never goes below 1 (42_timer_rtt.md R133, R134). -/
def Obligations.EwmaIsExactAndAtLeastOne : Prop :=
  ∀ (alpha : Nat) (est sample : Word), alpha ≤ 256 →
    (ewma alpha est sample).toNat
        = max (((256 - alpha) * est.toNat + alpha * sample.toNat) / 256) 1
      ∧ 1 ≤ (ewma alpha est sample).toNat

/-- The expiry event in an await state: the latched expiry is cleared, the pending frame emitted again, stamped and
the timer re-armed (42_timer_rtt.md R128, 43_sender.md R147). -/
def Obligations.ExpiryRetransmits : Prop :=
  ∀ s : State, s.tmrPend = true → s.shutdown = false → s.sndState.awaiting = true →
    s.txS.length < s.cfg.outDepth →
    s.expire
      = { s with
          txS := s.txS ++ [s.pendBuf.take s.pendLen.toNat]
          sendTs := s.now, tmrCount := s.estTimeout, tmrArmed := true, tmrPend := false }

/-- Where the expiry event does less: not latched, or held on a full `TX_S`, nothing; after shutdown it clears
`TMR_PEND` and does nothing else (20_memory.md R61, 42_timer_rtt.md R128, 43_sender.md R151). -/
def Obligations.ExpiryWithoutRetransmission : Prop :=
  ∀ s : State,
    (s.tmrPend = false → s.expire = s)
    ∧ (s.tmrPend = true → s.shutdown = false → s.sndState.awaiting = true → s.cfg.outDepth ≤ s.txS.length →
        s.expire = s)
    ∧ (s.tmrPend = true → s.shutdown = true → s.expire = { s with tmrPend := false })

/-! ### Sender -/

/-- `transmit(F)` (43_sender.md R138). -/
def Obligations.TransmitEmitsStampsAndArms : Prop :=
  ∀ (s : State) (f : Bytes),
    s.transmit f
      = { s with
          txS := s.txS ++ [f], sendTs := s.now
          tmrCount := s.estTimeout, tmrArmed := true, tmrPend := false }

/-- `SND_SEND` in a ready state (43_sender.md R139, R141). -/
def Obligations.SndSendTransmits : Prop :=
  ∀ (s : State) (data : Bytes), data.length ≤ maxPayload s.cfg → s.shutdown = false →
    s.sndState.awaiting = false → s.txS.length < s.cfg.outDepth →
    exec (.sndSend data) s
      = .next { s with
          pendBuf := dataFrame s.sndState.bit data ++ s.pendBuf.drop (dataFrame s.sndState.bit data).length
          pendLen := BitVec.ofNat 16 (dataFrame s.sndState.bit data).length
          pendValid := true
          txS := s.txS ++ [dataFrame s.sndState.bit data]
          sendTs := s.now
          tmrCount := s.estTimeout
          tmrArmed := true
          tmrPend := false
          sndState := if s.sndState.bit then .aw1 else .aw0
          bytesSent := s.bytesSent + BitVec.ofNat 64 data.length
          port := none
          resp := some
            { status := 0x00#8, info := 0x06#8
              v0 := BitVec.ofNat 32 (dataFrame s.sndState.bit data).length } }

/-- `PEND_BUF` holds the transmitted frame in its first `PEND_LEN` bytes, and every byte beyond is as before
(10_state.md R41, 43_sender.md R139). -/
def Obligations.PendBufHoldsTheSentFrame : Prop :=
  ∀ (s : State) (data : Bytes), configValid s.cfg = true → data.length ≤ maxPayload s.cfg →
    s.shutdown = false → s.sndState.awaiting = false → s.txS.length < s.cfg.outDepth →
    ∃ t, exec (.sndSend data) s = .next t
      ∧ t.pendingFrame = dataFrame s.sndState.bit data
      ∧ t.pendLen.toNat = (dataFrame s.sndState.bit data).length
      ∧ (∀ k, (dataFrame s.sndState.bit data).length ≤ k → t.pendBuf[k]? = s.pendBuf[k]?)

/-- `SND_SEND` while awaiting is a no-op that answers `ST_BUSY` (43_sender.md R140). -/
def Obligations.SndSendWhileAwaitingIsBusy : Prop :=
  ∀ (s : State) (data : Bytes), data.length ≤ maxPayload s.cfg → s.shutdown = false →
    s.sndState.awaiting = true →
    exec (.sndSend data) s = .next { s with port := none, resp := some { status := 0x01#8 } }

/-- The match path of `SND_RX` (43_sender.md R144, 42_timer_rtt.md R132, R133). That `PEND_BUF` keeps the released
bytes is the model's choice (log 23). -/
def Obligations.SndRxMatchAdvances : Prop :=
  ∀ (s : State) (data : Bytes), s.shutdown = false → s.sndState.awaiting = true → s.cleanS = true →
    (decodeFrame (data.take s.cfg.maxFrame)).isCorrupt = false →
    (decodeFrame (data.take s.cfg.maxFrame)).isAck = true →
    (decodeFrame (data.take s.cfg.maxFrame)).ack = (if s.sndState.bit then 1#32 else 0#32) →
    exec (.sndRx data) s
      = .next { s with
          lastRtt := s.now - s.sendTs
          estTimeout := BitVec.ofNat 32
            (max (((256 - s.cfg.alphaQ8) * s.estTimeout.toNat
              + s.cfg.alphaQ8 * (s.now - s.sendTs).toNat) / 256) 1)
          tmrArmed := false
          tmrPend := false
          tmrCount := 0#32
          pendValid := false
          pendLen := 0#16
          sndState := if s.sndState.bit then .rts0 else .rts1
          rngS := { ahead := s.rngS.ahead.drop 2, taken := s.rngS.taken + 2 }
          port := none
          resp := some
            { status := 0x00#8, info := 0x04#8
              flags := if s.cfg.maxFrame < data.length then 0x11#8 else 0x01#8
              v0 := (decodeFrame (data.take s.cfg.maxFrame)).seq
              v1 := (decodeFrame (data.take s.cfg.maxFrame)).ack
              v2 := (decodeFrame (data.take s.cfg.maxFrame)).digest } }

/-- The mismatch path of `SND_RX` (43_sender.md R145). -/
def Obligations.SndRxMismatchRetransmits : Prop :=
  ∀ (s : State) (data : Bytes), s.shutdown = false → s.sndState.awaiting = true → s.cleanS = true →
    (decodeFrame (data.take s.cfg.maxFrame)).isCorrupt = false →
    (decodeFrame (data.take s.cfg.maxFrame)).isAck = true →
    (decodeFrame (data.take s.cfg.maxFrame)).ack ≠ (if s.sndState.bit then 1#32 else 0#32) →
    s.txS.length < s.cfg.outDepth →
    exec (.sndRx data) s
      = .next { s with
          txS := s.txS ++ [s.pendBuf.take s.pendLen.toNat]
          sendTs := s.now
          tmrCount := s.estTimeout
          tmrArmed := true
          tmrPend := false
          rngS := { ahead := s.rngS.ahead.drop 2, taken := s.rngS.taken + 2 }
          port := none
          resp := some
            { status := 0x00#8, info := 0x05#8
              flags := if s.cfg.maxFrame < data.length then 0x11#8 else 0x01#8
              v0 := (decodeFrame (data.take s.cfg.maxFrame)).seq
              v1 := (decodeFrame (data.take s.cfg.maxFrame)).ack
              v2 := (decodeFrame (data.take s.cfg.maxFrame)).digest } }

/-- The discard path of `SND_RX` (43_sender.md R143): a frame not dropped that is corrupt, marked, or no ACK. -/
def Obligations.SndRxDiscardChangesNothing : Prop :=
  ∀ (s : State) (data : Bytes), s.shutdown = false → s.dropsS = false →
    ((decodeFrame (data.take s.cfg.maxFrame)).isCorrupt = true ∨ s.forcesS = true
      ∨ (decodeFrame (data.take s.cfg.maxFrame)).isAck = false) →
    exec (.sndRx data) s
      = .next { s with
          rngS := { ahead := s.rngS.ahead.drop 2, taken := s.rngS.taken + 2 }
          port := none
          resp := some
            { status := 0x00#8, info := 0x02#8
              flags := flagsByte (decodeFrame (data.take s.cfg.maxFrame)).isAck
                ((decodeFrame (data.take s.cfg.maxFrame)).isCorrupt || s.forcesS)
                (parseFrame (data.take s.cfg.maxFrame)).isNone s.forcesS
                (decide (s.cfg.maxFrame < data.length))
              v0 := (decodeFrame (data.take s.cfg.maxFrame)).seq
              v1 := (decodeFrame (data.take s.cfg.maxFrame)).ack
              v2 := (decodeFrame (data.take s.cfg.maxFrame)).digest } }

/-- A valid ACK while ready changes no state (43_sender.md R146). -/
def Obligations.SndRxWhileReadyIsIgnored : Prop :=
  ∀ (s : State) (data : Bytes), s.shutdown = false → s.sndState.awaiting = false → s.cleanS = true →
    (decodeFrame (data.take s.cfg.maxFrame)).isCorrupt = false →
    (decodeFrame (data.take s.cfg.maxFrame)).isAck = true →
    exec (.sndRx data) s
      = .next { s with
          rngS := { ahead := s.rngS.ahead.drop 2, taken := s.rngS.taken + 2 }
          port := none
          resp := some
            { status := 0x00#8, info := 0x03#8
              flags := if s.cfg.maxFrame < data.length then 0x11#8 else 0x01#8
              v0 := (decodeFrame (data.take s.cfg.maxFrame)).seq
              v1 := (decodeFrame (data.take s.cfg.maxFrame)).ack
              v2 := (decodeFrame (data.take s.cfg.maxFrame)).digest } }

/-- `SND_TIMEOUT`: in an await state it retransmits, in a ready state it does nothing (43_sender.md R147, R148). -/
def Obligations.SndTimeoutRunsTheHandler : Prop :=
  ∀ s : State, s.shutdown = false →
    (s.sndState.awaiting = true → s.txS.length < s.cfg.outDepth →
      exec .sndTimeout s
        = .next { s with
            txS := s.txS ++ [s.pendBuf.take s.pendLen.toNat]
            sendTs := s.now
            tmrCount := s.estTimeout
            tmrArmed := true
            tmrPend := false
            port := none
            resp := some { status := 0x00#8, info := 0x07#8 } })
    ∧ (s.sndState.awaiting = false →
      exec .sndTimeout s = .next { s with port := none, resp := some { status := 0x00#8, info := 0x03#8 } })

/-- `SND_READY` reports the state bit, after shutdown too (43_sender.md R149), and the output pin `snd_ready` has that
level, which is bit 4 of CSR 0x01 (10_state.md R34, R52). -/
def Obligations.SndReadyReportsTheStateBit : Prop :=
  ∀ s : State,
    exec .sndReady s
      = .next { s with
          port := none
          resp := some { status := 0x00#8, v0 := if s.sndState.awaiting then 0#32 else 1#32 } }
    ∧ s.sndReady = !s.sndState.awaiting
    ∧ ∃ v : Word, csrValue s 0x01#8 = some v ∧ v.getLsbD 4 = s.sndReady

/-- `SND_SHUTDOWN` (43_sender.md R150; idempotent, log 25). -/
def Obligations.SndShutdownSetsTheFlag : Prop :=
  ∀ s : State,
    exec .sndShutdown s = .next { s with shutdown := true, port := none, resp := some { status := 0x00#8 } }

/-- After shutdown `SND_SEND`, `SND_RX` and `SND_TIMEOUT` answer `ST_SHUTDOWN`, change nothing and take no draw; the
Codec, the Receiver, `SND_READY`, `SND_SHUTDOWN` and `CSR_RD` do what they did before, but that CSR 0x01 shows
`SHUTDOWN` in its bit 2 (43_sender.md R151, 10_state.md R34). -/
def Obligations.AfterShutdown : Prop :=
  ∀ s : State,
    (s.shutdown = true →
      (∀ data : Bytes, data.length ≤ maxPayload s.cfg →
        exec (.sndSend data) s = .next { s with port := none, resp := some { status := 0x04#8 } })
      ∧ (∀ data : Bytes,
        exec (.sndRx data) s = .next { s with port := none, resp := some { status := 0x04#8 } })
      ∧ exec .sndTimeout s = .next { s with port := none, resp := some { status := 0x04#8 } })
    ∧ (∀ (i : Instr) (t : State),
        ((∃ a b k d, i = .enc a b k d) ∨ (∃ d, i = .dec d) ∨ (∃ d, i = .dig d) ∨ (∃ w d, i = .vfy w d)
          ∨ (∃ d, i = .rcvRx d) ∨ i = .sndReady ∨ i = .sndShutdown ∨ (∃ n, n ≠ 0x01#8 ∧ i = .csrRd n)) →
        exec i s = .next t → exec i { s with shutdown := true } = .next { t with shutdown := true })
    ∧ (∃ v : Word,
        exec (.csrRd 0x01#8) s = .next { s with port := none, resp := some { status := 0x00#8, v0 := v } }
        ∧ exec (.csrRd 0x01#8) { s with shutdown := true }
          = .next { s with
              shutdown := true, port := none, resp := some { status := 0x00#8, v0 := v ||| 0x00000004#32 } })

/-- A command that would emit into a full FIFO does not happen: it stays on the port, without a response
(20_memory.md R61, 45_system.md R162). -/
def Obligations.CommandIsHeldOnAFullFifo : Prop :=
  ∀ s : State,
    (s.shutdown = false → s.cfg.outDepth ≤ s.txS.length →
      (s.sndState.awaiting = false →
        ∀ data : Bytes, data.length ≤ maxPayload s.cfg → exec (.sndSend data) s = .next s)
      ∧ (s.sndState.awaiting = true → exec .sndTimeout s = .next s)
      ∧ (s.sndState.awaiting = true → s.cleanS = true →
        ∀ data : Bytes, (decodeFrame (data.take s.cfg.maxFrame)).isCorrupt = false →
          (decodeFrame (data.take s.cfg.maxFrame)).isAck = true →
          (decodeFrame (data.take s.cfg.maxFrame)).ack ≠ (if s.sndState.bit then 1#32 else 0#32) →
          exec (.sndRx data) s = .next s))
    ∧ (s.dropsR = false → s.cfg.outDepth ≤ s.txR.length → ∀ data : Bytes, exec (.rcvRx data) s = .next s)
    ∧ (s.cleanR = true → s.cfg.outDepth ≤ s.deliver.length →
      ∀ data : Bytes, (decodeFrame (data.take s.cfg.maxFrame)).isCorrupt = false →
        (decodeFrame (data.take s.cfg.maxFrame)).seq = (if s.expected then 1#32 else 0#32) →
        exec (.rcvRx data) s = .next s)

/-! ### Receiver -/

/-- The accept path of `RCV_RX` (44_receiver.md R156). -/
def Obligations.RcvRxAccepts : Prop :=
  ∀ (s : State) (data : Bytes), s.cleanR = true →
    (decodeFrame (data.take s.cfg.maxFrame)).isCorrupt = false →
    (decodeFrame (data.take s.cfg.maxFrame)).seq = (if s.expected then 1#32 else 0#32) →
    s.deliver.length < s.cfg.outDepth → s.txR.length < s.cfg.outDepth →
    exec (.rcvRx data) s
      = .next { s with
          deliver := s.deliver ++ [(decodeFrame (data.take s.cfg.maxFrame)).payload]
          txR := s.txR ++ [ackFrame s.expected]
          expected := !s.expected
          rngR := { ahead := s.rngR.ahead.drop 2, taken := s.rngR.taken + 2 }
          port := none
          resp := some
            { status := 0x00#8, info := 0x08#8
              flags := flagsByte (decodeFrame (data.take s.cfg.maxFrame)).isAck false false false
                (decide (s.cfg.maxFrame < data.length))
              v0 := (decodeFrame (data.take s.cfg.maxFrame)).seq
              v1 := (decodeFrame (data.take s.cfg.maxFrame)).ack
              v2 := (decodeFrame (data.take s.cfg.maxFrame)).digest } }

/-- The re-ACK path of `RCV_RX` (44_receiver.md R157): a frame not dropped that is corrupt, marked, or not the
expected one. -/
def Obligations.RcvRxReAcks : Prop :=
  ∀ (s : State) (data : Bytes), s.dropsR = false →
    ((decodeFrame (data.take s.cfg.maxFrame)).isCorrupt = true ∨ s.forcesR = true
      ∨ (decodeFrame (data.take s.cfg.maxFrame)).seq ≠ (if s.expected then 1#32 else 0#32)) →
    s.txR.length < s.cfg.outDepth →
    exec (.rcvRx data) s
      = .next { s with
          txR := s.txR ++ [ackFrame (!s.expected)]
          rngR := { ahead := s.rngR.ahead.drop 2, taken := s.rngR.taken + 2 }
          port := none
          resp := some
            { status := 0x00#8, info := 0x09#8
              flags := flagsByte (decodeFrame (data.take s.cfg.maxFrame)).isAck
                ((decodeFrame (data.take s.cfg.maxFrame)).isCorrupt || s.forcesR)
                (parseFrame (data.take s.cfg.maxFrame)).isNone s.forcesR
                (decide (s.cfg.maxFrame < data.length))
              v0 := (decodeFrame (data.take s.cfg.maxFrame)).seq
              v1 := (decodeFrame (data.take s.cfg.maxFrame)).ack
              v2 := (decodeFrame (data.take s.cfg.maxFrame)).digest } }

/-- The `seq` values of the accepted frames alternate in every run without a reset, from every state
(44_receiver.md R158). -/
def Obligations.AcceptedSequenceAlternates : Prop :=
  ∀ (n : Nat) (s : State), (∀ cfg, Event.reset cfg ∉ s.schedule) →
    acceptedSeqs n s = alternating (acceptedSeqs n s).length s.expected

/-! ### System -/

/-- `CSR_RD` of an assigned number (45_system.md R159, 10_state.md R29, R30, R34; the 18 numbers of R29, log 24). -/
def Obligations.CsrRdAnswersTheMap : Prop :=
  ∀ (s : State) (n : BitVec 8) (v : Word),
    (n, v) ∈
      [ (0x00#8, 0x52445433#32),
        (0x01#8, BitVec.ofNat 32 (s.sndState.code.toNat + 4 * s.shutdown.toNat + 8 * s.pendValid.toNat
          + 16 * (!s.sndState.awaiting).toNat)),
        (0x02#8, s.estTimeout),
        (0x03#8, s.sendTs),
        (0x04#8, BitVec.ofNat 32 (s.bytesSent.toNat % 4294967296)),
        (0x05#8, BitVec.ofNat 32 (s.bytesSent.toNat / 4294967296)),
        (0x06#8, BitVec.ofNat 32 (s.tmrArmed.toNat + 2 * s.tmrPend.toNat)),
        (0x07#8, s.tmrCount),
        (0x08#8, s.now),
        (0x09#8, s.lastRtt),
        (0x0A#8, BitVec.ofNat 32 s.pendLen.toNat),
        (0x0B#8, BitVec.ofNat 32 s.expected.toNat),
        (0x10#8, BitVec.ofNat 32 s.cfg.initTimeout),
        (0x11#8, BitVec.ofNat 32 s.cfg.alphaQ8),
        (0x12#8, BitVec.ofNat 32 s.cfg.pLossQ16),
        (0x13#8, BitVec.ofNat 32 s.cfg.pCorruptQ16),
        (0x14#8, BitVec.ofNat 32 s.cfg.maxFrame),
        (0x15#8, BitVec.ofNat 32 s.cfg.outDepth) ] →
    exec (.csrRd n) s = .next { s with port := none, resp := some { status := 0x00#8, v0 := v } }

/-- An unassigned CSR number is not a fault (10_state.md R31). Which numbers are unassigned is as 10_state.md R29 lists
them (log 24). -/
def Obligations.UnassignedCsrAnswersBadCsr : Prop :=
  ∀ (s : State) (n : BitVec 8), (0x0C ≤ n.toNat ∧ n.toNat ≤ 0x0F) ∨ 0x16 ≤ n.toNat →
    exec (.csrRd n) s = .next { s with port := none, resp := some { status := 0x06#8 } }

/-- The codes of the four Sender states; every 2-bit value is one of them (10_state.md R36). -/
def Obligations.SenderStateCodes : Prop :=
  SndState.rts0.code = 0b00#2 ∧ SndState.aw0.code = 0b10#2 ∧ SndState.rts1.code = 0b01#2
    ∧ SndState.aw1.code = 0b11#2
    ∧ (∀ x : SndState, x.code.getLsbD 0 = x.bit ∧ x.code.getLsbD 1 = x.awaiting)
    ∧ ∀ v : BitVec 2, ∃ x : SndState, x.code = v

/-- A command that answers anything but `ST_OK` changes nothing but the port and the response, and every field of
that response but `status` is zero (30_encoding.md R85, R90). -/
def Obligations.RefusedCommandChangesNothing : Prop :=
  ∀ (i : Instr) (s t : State) (r : Response), s.resp = none → exec i s = .next t → t.resp = some r →
    r.status ≠ 0x00#8 →
    t = { s with port := none, resp := some { status := r.status } }
      ∧ r.status ∈ [0x01#8, 0x02#8, 0x03#8, 0x04#8, 0x06#8]

/-! ### Reset -/

/-- The registers after reset, but for `PEND_BUF`, to which the spec gives no value (70_reset_and_hazards.md
R184). -/
def Obligations.ResetValues : Prop :=
  ∀ cfg : Config,
    (State.resetWith cfg).sndState = .rts0 ∧ (State.resetWith cfg).expected = false
      ∧ (State.resetWith cfg).estTimeout = BitVec.ofNat 32 cfg.initTimeout
      ∧ (State.resetWith cfg).shutdown = false ∧ (State.resetWith cfg).pendValid = false
      ∧ (State.resetWith cfg).pendLen = 0#16 ∧ (State.resetWith cfg).sendTs = 0#32
      ∧ (State.resetWith cfg).lastRtt = 0#32 ∧ (State.resetWith cfg).now = 0#32
      ∧ (State.resetWith cfg).bytesSent = 0#64 ∧ (State.resetWith cfg).tmrArmed = false
      ∧ (State.resetWith cfg).tmrPend = false ∧ (State.resetWith cfg).tmrCount = 0#32
      ∧ (State.resetWith cfg).txS = [] ∧ (State.resetWith cfg).txR = [] ∧ (State.resetWith cfg).deliver = []
      ∧ (State.resetWith cfg).cfg = cfg ∧ (State.resetWith cfg).port = none
      ∧ State.reset = State.resetWith Config.hardware

/-- The reset event: the state is `State.resetWith` of the configuration, a held command discarded, the draw inputs
untouched; an invalid configuration is refused (70_reset_and_hazards.md R183, R185, R186). The model's choices in it are
`PEND_BUF` of zeros (log 1), the empty response register (log 10), the schedule, which goes on (log 2), and the form
of the configuration and of its refusal (log 8, log 9). -/
def Obligations.ResetEventReinitialises : Prop :=
  ∀ (s : State) (cfg : Config) (rest : List Event), s.schedule = .reset cfg :: rest →
    (configValid cfg = true →
      step s = .next { State.resetWith cfg with schedule := rest, rngS := s.rngS, rngR := s.rngR })
    ∧ (configValid cfg = false → step s = .refused .invalidConfiguration)
    ∧ (configValid cfg = true ↔
        1 ≤ cfg.initTimeout ∧ cfg.initTimeout ≤ 4294967295 ∧ 1 ≤ cfg.alphaQ8 ∧ cfg.alphaQ8 ≤ 255
          ∧ cfg.pLossQ16 ≤ 65536 ∧ cfg.pCorruptQ16 ≤ 65536 ∧ 64 ≤ cfg.maxFrame ∧ cfg.maxFrame ≤ 65535
          ∧ 1 ≤ cfg.outDepth ∧ cfg.outDepth ≤ 65535)

/-! ### Whole-machine rules -/

/-- The invariant holds right after reset, whatever the OPEN parameters are (70_reset_and_hazards.md R184, R185). -/
def Obligations.InvariantAtReset : Prop := State.reset.Inv

/-- Every step keeps the invariant (10_state.md R38, R43, R49, R50; 20_memory.md R61; 30_encoding.md R77). -/
def Obligations.EveryStepKeepsTheInvariant : Prop :=
  ∀ s t : State, s.Inv → step s = .next t → t.Inv

/-- `SND_STATE` moves only along `RTS0 -> AW0 -> RTS1 -> AW1 -> RTS0`: out of `RTSb` by `SND_SEND`, out of `AWb` by
a valid ACK for `b`; or reset (10_state.md R35, 43_sender.md R152). -/
def Obligations.SenderStateMovesOnlyAlongTheCycle : Prop :=
  ∀ s t : State, step s = .next t → t.sndState ≠ s.sndState →
    (∃ (cfg : Config) (rest : List Event), s.schedule = .reset cfg :: rest ∧ t.sndState = .rts0)
    ∨ ∃ (c : Command) (rest : List Event) (data : Bytes), s.schedule = .accept :: rest ∧ s.port = some c
        ∧ ((decode c = .instr (.sndSend data) ∧ s.sndState.awaiting = false
              ∧ t.sndState = (if s.sndState.bit then .aw1 else .aw0))
          ∨ (decode c = .instr (.sndRx data) ∧ s.sndState.awaiting = true ∧ s.cleanS = true
              ∧ (decodeFrame (data.take s.cfg.maxFrame)).isCorrupt = false
              ∧ (decodeFrame (data.take s.cfg.maxFrame)).isAck = true
              ∧ (decodeFrame (data.take s.cfg.maxFrame)).ack = (if s.sndState.bit then 1#32 else 0#32)
              ∧ t.sndState = (if s.sndState.bit then .rts0 else .rts1)))

/-- Who writes `EST_TIMEOUT` and `LAST_RTT` (the match path), `SHUTDOWN` (set by `SND_SHUTDOWN`, cleared by reset
alone), `BYTES_SENT` (`SND_SEND`), `NOW` (the tick) and `EXPECTED` (`RCV_RX`), reset apart (10_state.md R37, R38, R40,
R42, R44, R45; 42_timer_rtt.md R135). -/
def Obligations.RegistersAreWrittenOnlyByTheirEvents : Prop :=
  ∀ s t : State, step s = .next t → (∀ (cfg : Config) (rest : List Event), s.schedule ≠ .reset cfg :: rest) →
    ((t.estTimeout ≠ s.estTimeout ∨ t.lastRtt ≠ s.lastRtt) →
      s.sndState.awaiting = true ∧ t.sndState.awaiting = false ∧ t.lastRtt = s.now - s.sendTs)
    ∧ (s.shutdown = true → t.shutdown = true)
    ∧ (t.shutdown ≠ s.shutdown →
      ∃ (c : Command) (rest : List Event), s.schedule = .accept :: rest ∧ s.port = some c
        ∧ decode c = .instr .sndShutdown)
    ∧ (t.bytesSent ≠ s.bytesSent →
      ∃ (c : Command) (rest : List Event) (data : Bytes), s.schedule = .accept :: rest ∧ s.port = some c
        ∧ decode c = .instr (.sndSend data) ∧ t.bytesSent = s.bytesSent + BitVec.ofNat 64 data.length)
    ∧ (t.now ≠ s.now → ∃ rest : List Event, s.schedule = .tick :: rest ∧ t.now = s.now + 1#32)
    ∧ (t.expected ≠ s.expected →
      ∃ (c : Command) (rest : List Event) (data : Bytes), s.schedule = .accept :: rest ∧ s.port = some c
        ∧ decode c = .instr (.rcvRx data) ∧ t.deliver = s.deliver ++ [(decodeFrame (data.take s.cfg.maxFrame)).payload]
        ∧ t.txR = s.txR ++ [ackFrame s.expected])
    ∧ t.cfg = s.cfg

/-- The expiry and ACK race: both orders end in `RTS(1-b)` with the timer off; ACK first, one frame was sent and the
expiry never happens; expiry first, the frame goes out again and the sample measures from the retransmission
(60_exceptions.md R170). That an expiry event which is not enabled leaves the state as it is, is log 3. -/
def Obligations.ExpiryAckRace : Prop :=
  ∀ (s : State) (data : Bytes), s.shutdown = false → s.sndState.awaiting = true → s.tmrPend = true →
    s.cleanS = true → s.txS.length < s.cfg.outDepth →
    (decodeFrame (data.take s.cfg.maxFrame)).isCorrupt = false →
    (decodeFrame (data.take s.cfg.maxFrame)).isAck = true →
    (decodeFrame (data.take s.cfg.maxFrame)).ack = (if s.sndState.bit then 1#32 else 0#32) →
    ∃ t u : State, exec (.sndRx data) s = .next t ∧ exec (.sndRx data) s.expire = .next u
      ∧ t.expire = t
      ∧ t.sndState = (if s.sndState.bit then .rts0 else .rts1) ∧ u.sndState = t.sndState
      ∧ t.tmrArmed = false ∧ t.tmrPend = false ∧ u.tmrArmed = false ∧ u.tmrPend = false
      ∧ t.txS = s.txS ∧ u.txS = s.txS ++ [s.pendingFrame]
      ∧ t.lastRtt = s.now - s.sendTs ∧ u.lastRtt = 0#32

/-- An event of the Sender's side and one of the Receiver's give the same end state and the same responses in either
order (20_memory.md R64). A command that is held changes nothing (log 3); `offer` then takes it off the port again,
without a response, so that the next command finds the port free. -/
def Obligations.SenderAndReceiverEventsCommute : Prop :=
  ∀ (a b : UnitEvent) (s : State), a.isSender = true → b.isReceiver = true → s.port = none → s.resp = none →
    (b.occur (a.occur s).1).1 = (a.occur (b.occur s).1).1
      ∧ (b.occur (a.occur s).1).2 = (b.occur s).2
      ∧ (a.occur (b.occur s).1).2 = (a.occur s).2
end

