-- ==== Sys2Proof/Laws/State.lean ====
section
/-! SUPPORT. One lemma per field per update of the state, each true by rfl, so that no proof unfolds a record
update. -/

namespace Sys2Proof.Machine
namespace State

variable (s : State)

/-! ### `timerStart` -/
@[simp] theorem timerStart_sndState : (s.timerStart).sndState = s.sndState := rfl
@[simp] theorem timerStart_shutdown : (s.timerStart).shutdown = s.shutdown := rfl
@[simp] theorem timerStart_pendValid : (s.timerStart).pendValid = s.pendValid := rfl
@[simp] theorem timerStart_pendLen : (s.timerStart).pendLen = s.pendLen := rfl
@[simp] theorem timerStart_pendBuf : (s.timerStart).pendBuf = s.pendBuf := rfl
@[simp] theorem timerStart_sendTs : (s.timerStart).sendTs = s.sendTs := rfl
@[simp] theorem timerStart_estTimeout : (s.timerStart).estTimeout = s.estTimeout := rfl
@[simp] theorem timerStart_lastRtt : (s.timerStart).lastRtt = s.lastRtt := rfl
@[simp] theorem timerStart_bytesSent : (s.timerStart).bytesSent = s.bytesSent := rfl
@[simp] theorem timerStart_tmrArmed : (s.timerStart).tmrArmed = true := rfl
@[simp] theorem timerStart_tmrPend : (s.timerStart).tmrPend = false := rfl
@[simp] theorem timerStart_tmrCount : (s.timerStart).tmrCount = s.estTimeout := rfl
@[simp] theorem timerStart_now : (s.timerStart).now = s.now := rfl
@[simp] theorem timerStart_expected : (s.timerStart).expected = s.expected := rfl
@[simp] theorem timerStart_txS : (s.timerStart).txS = s.txS := rfl
@[simp] theorem timerStart_txR : (s.timerStart).txR = s.txR := rfl
@[simp] theorem timerStart_deliver : (s.timerStart).deliver = s.deliver := rfl
@[simp] theorem timerStart_cfg : (s.timerStart).cfg = s.cfg := rfl
@[simp] theorem timerStart_port : (s.timerStart).port = s.port := rfl
@[simp] theorem timerStart_resp : (s.timerStart).resp = s.resp := rfl
@[simp] theorem timerStart_schedule : (s.timerStart).schedule = s.schedule := rfl
@[simp] theorem timerStart_rngS : (s.timerStart).rngS = s.rngS := rfl
@[simp] theorem timerStart_rngR : (s.timerStart).rngR = s.rngR := rfl

/-! ### `timerStop` -/
@[simp] theorem timerStop_sndState : (s.timerStop).sndState = s.sndState := rfl
@[simp] theorem timerStop_shutdown : (s.timerStop).shutdown = s.shutdown := rfl
@[simp] theorem timerStop_pendValid : (s.timerStop).pendValid = s.pendValid := rfl
@[simp] theorem timerStop_pendLen : (s.timerStop).pendLen = s.pendLen := rfl
@[simp] theorem timerStop_pendBuf : (s.timerStop).pendBuf = s.pendBuf := rfl
@[simp] theorem timerStop_sendTs : (s.timerStop).sendTs = s.sendTs := rfl
@[simp] theorem timerStop_estTimeout : (s.timerStop).estTimeout = s.estTimeout := rfl
@[simp] theorem timerStop_lastRtt : (s.timerStop).lastRtt = s.lastRtt := rfl
@[simp] theorem timerStop_bytesSent : (s.timerStop).bytesSent = s.bytesSent := rfl
@[simp] theorem timerStop_tmrArmed : (s.timerStop).tmrArmed = false := rfl
@[simp] theorem timerStop_tmrPend : (s.timerStop).tmrPend = false := rfl
@[simp] theorem timerStop_tmrCount : (s.timerStop).tmrCount = 0#32 := rfl
@[simp] theorem timerStop_now : (s.timerStop).now = s.now := rfl
@[simp] theorem timerStop_expected : (s.timerStop).expected = s.expected := rfl
@[simp] theorem timerStop_txS : (s.timerStop).txS = s.txS := rfl
@[simp] theorem timerStop_txR : (s.timerStop).txR = s.txR := rfl
@[simp] theorem timerStop_deliver : (s.timerStop).deliver = s.deliver := rfl
@[simp] theorem timerStop_cfg : (s.timerStop).cfg = s.cfg := rfl
@[simp] theorem timerStop_port : (s.timerStop).port = s.port := rfl
@[simp] theorem timerStop_resp : (s.timerStop).resp = s.resp := rfl
@[simp] theorem timerStop_schedule : (s.timerStop).schedule = s.schedule := rfl
@[simp] theorem timerStop_rngS : (s.timerStop).rngS = s.rngS := rfl
@[simp] theorem timerStop_rngR : (s.timerStop).rngR = s.rngR := rfl

/-! ### `rttUpdate` -/
@[simp] theorem rttUpdate_sndState (x : Word) : (s.rttUpdate x).sndState = s.sndState := rfl
@[simp] theorem rttUpdate_shutdown (x : Word) : (s.rttUpdate x).shutdown = s.shutdown := rfl
@[simp] theorem rttUpdate_pendValid (x : Word) : (s.rttUpdate x).pendValid = s.pendValid := rfl
@[simp] theorem rttUpdate_pendLen (x : Word) : (s.rttUpdate x).pendLen = s.pendLen := rfl
@[simp] theorem rttUpdate_pendBuf (x : Word) : (s.rttUpdate x).pendBuf = s.pendBuf := rfl
@[simp] theorem rttUpdate_sendTs (x : Word) : (s.rttUpdate x).sendTs = s.sendTs := rfl
@[simp] theorem rttUpdate_estTimeout (x : Word) : (s.rttUpdate x).estTimeout = ewma s.cfg.alphaQ8 s.estTimeout x := rfl
@[simp] theorem rttUpdate_lastRtt (x : Word) : (s.rttUpdate x).lastRtt = x := rfl
@[simp] theorem rttUpdate_bytesSent (x : Word) : (s.rttUpdate x).bytesSent = s.bytesSent := rfl
@[simp] theorem rttUpdate_tmrArmed (x : Word) : (s.rttUpdate x).tmrArmed = s.tmrArmed := rfl
@[simp] theorem rttUpdate_tmrPend (x : Word) : (s.rttUpdate x).tmrPend = s.tmrPend := rfl
@[simp] theorem rttUpdate_tmrCount (x : Word) : (s.rttUpdate x).tmrCount = s.tmrCount := rfl
@[simp] theorem rttUpdate_now (x : Word) : (s.rttUpdate x).now = s.now := rfl
@[simp] theorem rttUpdate_expected (x : Word) : (s.rttUpdate x).expected = s.expected := rfl
@[simp] theorem rttUpdate_txS (x : Word) : (s.rttUpdate x).txS = s.txS := rfl
@[simp] theorem rttUpdate_txR (x : Word) : (s.rttUpdate x).txR = s.txR := rfl
@[simp] theorem rttUpdate_deliver (x : Word) : (s.rttUpdate x).deliver = s.deliver := rfl
@[simp] theorem rttUpdate_cfg (x : Word) : (s.rttUpdate x).cfg = s.cfg := rfl
@[simp] theorem rttUpdate_port (x : Word) : (s.rttUpdate x).port = s.port := rfl
@[simp] theorem rttUpdate_resp (x : Word) : (s.rttUpdate x).resp = s.resp := rfl
@[simp] theorem rttUpdate_schedule (x : Word) : (s.rttUpdate x).schedule = s.schedule := rfl
@[simp] theorem rttUpdate_rngS (x : Word) : (s.rttUpdate x).rngS = s.rngS := rfl
@[simp] theorem rttUpdate_rngR (x : Word) : (s.rttUpdate x).rngR = s.rngR := rfl

/-! ### `takeDrawsS` -/
@[simp] theorem takeDrawsS_sndState : (s.takeDrawsS).sndState = s.sndState := rfl
@[simp] theorem takeDrawsS_shutdown : (s.takeDrawsS).shutdown = s.shutdown := rfl
@[simp] theorem takeDrawsS_pendValid : (s.takeDrawsS).pendValid = s.pendValid := rfl
@[simp] theorem takeDrawsS_pendLen : (s.takeDrawsS).pendLen = s.pendLen := rfl
@[simp] theorem takeDrawsS_pendBuf : (s.takeDrawsS).pendBuf = s.pendBuf := rfl
@[simp] theorem takeDrawsS_sendTs : (s.takeDrawsS).sendTs = s.sendTs := rfl
@[simp] theorem takeDrawsS_estTimeout : (s.takeDrawsS).estTimeout = s.estTimeout := rfl
@[simp] theorem takeDrawsS_lastRtt : (s.takeDrawsS).lastRtt = s.lastRtt := rfl
@[simp] theorem takeDrawsS_bytesSent : (s.takeDrawsS).bytesSent = s.bytesSent := rfl
@[simp] theorem takeDrawsS_tmrArmed : (s.takeDrawsS).tmrArmed = s.tmrArmed := rfl
@[simp] theorem takeDrawsS_tmrPend : (s.takeDrawsS).tmrPend = s.tmrPend := rfl
@[simp] theorem takeDrawsS_tmrCount : (s.takeDrawsS).tmrCount = s.tmrCount := rfl
@[simp] theorem takeDrawsS_now : (s.takeDrawsS).now = s.now := rfl
@[simp] theorem takeDrawsS_expected : (s.takeDrawsS).expected = s.expected := rfl
@[simp] theorem takeDrawsS_txS : (s.takeDrawsS).txS = s.txS := rfl
@[simp] theorem takeDrawsS_txR : (s.takeDrawsS).txR = s.txR := rfl
@[simp] theorem takeDrawsS_deliver : (s.takeDrawsS).deliver = s.deliver := rfl
@[simp] theorem takeDrawsS_cfg : (s.takeDrawsS).cfg = s.cfg := rfl
@[simp] theorem takeDrawsS_port : (s.takeDrawsS).port = s.port := rfl
@[simp] theorem takeDrawsS_resp : (s.takeDrawsS).resp = s.resp := rfl
@[simp] theorem takeDrawsS_schedule : (s.takeDrawsS).schedule = s.schedule := rfl
@[simp] theorem takeDrawsS_rngS : (s.takeDrawsS).rngS = s.rngS.skip 2 := rfl
@[simp] theorem takeDrawsS_rngR : (s.takeDrawsS).rngR = s.rngR := rfl

/-! ### `takeDrawsR` -/
@[simp] theorem takeDrawsR_sndState : (s.takeDrawsR).sndState = s.sndState := rfl
@[simp] theorem takeDrawsR_shutdown : (s.takeDrawsR).shutdown = s.shutdown := rfl
@[simp] theorem takeDrawsR_pendValid : (s.takeDrawsR).pendValid = s.pendValid := rfl
@[simp] theorem takeDrawsR_pendLen : (s.takeDrawsR).pendLen = s.pendLen := rfl
@[simp] theorem takeDrawsR_pendBuf : (s.takeDrawsR).pendBuf = s.pendBuf := rfl
@[simp] theorem takeDrawsR_sendTs : (s.takeDrawsR).sendTs = s.sendTs := rfl
@[simp] theorem takeDrawsR_estTimeout : (s.takeDrawsR).estTimeout = s.estTimeout := rfl
@[simp] theorem takeDrawsR_lastRtt : (s.takeDrawsR).lastRtt = s.lastRtt := rfl
@[simp] theorem takeDrawsR_bytesSent : (s.takeDrawsR).bytesSent = s.bytesSent := rfl
@[simp] theorem takeDrawsR_tmrArmed : (s.takeDrawsR).tmrArmed = s.tmrArmed := rfl
@[simp] theorem takeDrawsR_tmrPend : (s.takeDrawsR).tmrPend = s.tmrPend := rfl
@[simp] theorem takeDrawsR_tmrCount : (s.takeDrawsR).tmrCount = s.tmrCount := rfl
@[simp] theorem takeDrawsR_now : (s.takeDrawsR).now = s.now := rfl
@[simp] theorem takeDrawsR_expected : (s.takeDrawsR).expected = s.expected := rfl
@[simp] theorem takeDrawsR_txS : (s.takeDrawsR).txS = s.txS := rfl
@[simp] theorem takeDrawsR_txR : (s.takeDrawsR).txR = s.txR := rfl
@[simp] theorem takeDrawsR_deliver : (s.takeDrawsR).deliver = s.deliver := rfl
@[simp] theorem takeDrawsR_cfg : (s.takeDrawsR).cfg = s.cfg := rfl
@[simp] theorem takeDrawsR_port : (s.takeDrawsR).port = s.port := rfl
@[simp] theorem takeDrawsR_resp : (s.takeDrawsR).resp = s.resp := rfl
@[simp] theorem takeDrawsR_schedule : (s.takeDrawsR).schedule = s.schedule := rfl
@[simp] theorem takeDrawsR_rngS : (s.takeDrawsR).rngS = s.rngS := rfl
@[simp] theorem takeDrawsR_rngR : (s.takeDrawsR).rngR = s.rngR.skip 2 := rfl

/-! ### `respond` -/
@[simp] theorem respond_sndState (r : Response) : (s.respond r).sndState = s.sndState := rfl
@[simp] theorem respond_shutdown (r : Response) : (s.respond r).shutdown = s.shutdown := rfl
@[simp] theorem respond_pendValid (r : Response) : (s.respond r).pendValid = s.pendValid := rfl
@[simp] theorem respond_pendLen (r : Response) : (s.respond r).pendLen = s.pendLen := rfl
@[simp] theorem respond_pendBuf (r : Response) : (s.respond r).pendBuf = s.pendBuf := rfl
@[simp] theorem respond_sendTs (r : Response) : (s.respond r).sendTs = s.sendTs := rfl
@[simp] theorem respond_estTimeout (r : Response) : (s.respond r).estTimeout = s.estTimeout := rfl
@[simp] theorem respond_lastRtt (r : Response) : (s.respond r).lastRtt = s.lastRtt := rfl
@[simp] theorem respond_bytesSent (r : Response) : (s.respond r).bytesSent = s.bytesSent := rfl
@[simp] theorem respond_tmrArmed (r : Response) : (s.respond r).tmrArmed = s.tmrArmed := rfl
@[simp] theorem respond_tmrPend (r : Response) : (s.respond r).tmrPend = s.tmrPend := rfl
@[simp] theorem respond_tmrCount (r : Response) : (s.respond r).tmrCount = s.tmrCount := rfl
@[simp] theorem respond_now (r : Response) : (s.respond r).now = s.now := rfl
@[simp] theorem respond_expected (r : Response) : (s.respond r).expected = s.expected := rfl
@[simp] theorem respond_txS (r : Response) : (s.respond r).txS = s.txS := rfl
@[simp] theorem respond_txR (r : Response) : (s.respond r).txR = s.txR := rfl
@[simp] theorem respond_deliver (r : Response) : (s.respond r).deliver = s.deliver := rfl
@[simp] theorem respond_cfg (r : Response) : (s.respond r).cfg = s.cfg := rfl
@[simp] theorem respond_port (r : Response) : (s.respond r).port = none := rfl
@[simp] theorem respond_resp (r : Response) : (s.respond r).resp = some r := rfl
@[simp] theorem respond_schedule (r : Response) : (s.respond r).schedule = s.schedule := rfl
@[simp] theorem respond_rngS (r : Response) : (s.respond r).rngS = s.rngS := rfl
@[simp] theorem respond_rngR (r : Response) : (s.respond r).rngR = s.rngR := rfl

/-! ### `refuse` -/
@[simp] theorem refuse_sndState (st : Status) : (s.refuse st).sndState = s.sndState := rfl
@[simp] theorem refuse_shutdown (st : Status) : (s.refuse st).shutdown = s.shutdown := rfl
@[simp] theorem refuse_pendValid (st : Status) : (s.refuse st).pendValid = s.pendValid := rfl
@[simp] theorem refuse_pendLen (st : Status) : (s.refuse st).pendLen = s.pendLen := rfl
@[simp] theorem refuse_pendBuf (st : Status) : (s.refuse st).pendBuf = s.pendBuf := rfl
@[simp] theorem refuse_sendTs (st : Status) : (s.refuse st).sendTs = s.sendTs := rfl
@[simp] theorem refuse_estTimeout (st : Status) : (s.refuse st).estTimeout = s.estTimeout := rfl
@[simp] theorem refuse_lastRtt (st : Status) : (s.refuse st).lastRtt = s.lastRtt := rfl
@[simp] theorem refuse_bytesSent (st : Status) : (s.refuse st).bytesSent = s.bytesSent := rfl
@[simp] theorem refuse_tmrArmed (st : Status) : (s.refuse st).tmrArmed = s.tmrArmed := rfl
@[simp] theorem refuse_tmrPend (st : Status) : (s.refuse st).tmrPend = s.tmrPend := rfl
@[simp] theorem refuse_tmrCount (st : Status) : (s.refuse st).tmrCount = s.tmrCount := rfl
@[simp] theorem refuse_now (st : Status) : (s.refuse st).now = s.now := rfl
@[simp] theorem refuse_expected (st : Status) : (s.refuse st).expected = s.expected := rfl
@[simp] theorem refuse_txS (st : Status) : (s.refuse st).txS = s.txS := rfl
@[simp] theorem refuse_txR (st : Status) : (s.refuse st).txR = s.txR := rfl
@[simp] theorem refuse_deliver (st : Status) : (s.refuse st).deliver = s.deliver := rfl
@[simp] theorem refuse_cfg (st : Status) : (s.refuse st).cfg = s.cfg := rfl
@[simp] theorem refuse_port (st : Status) : (s.refuse st).port = none := rfl
@[simp] theorem refuse_resp (st : Status) : (s.refuse st).resp = some (Response.mk st.code 0#8 0#8 0#32 0#32 0#32 []) := rfl
@[simp] theorem refuse_schedule (st : Status) : (s.refuse st).schedule = s.schedule := rfl
@[simp] theorem refuse_rngS (st : Status) : (s.refuse st).rngS = s.rngS := rfl
@[simp] theorem refuse_rngR (st : Status) : (s.refuse st).rngR = s.rngR := rfl

/-! ### `emitTxS` -/
@[simp] theorem emitTxS_sndState (f : Bytes) : (s.emitTxS f).sndState = s.sndState := rfl
@[simp] theorem emitTxS_shutdown (f : Bytes) : (s.emitTxS f).shutdown = s.shutdown := rfl
@[simp] theorem emitTxS_pendValid (f : Bytes) : (s.emitTxS f).pendValid = s.pendValid := rfl
@[simp] theorem emitTxS_pendLen (f : Bytes) : (s.emitTxS f).pendLen = s.pendLen := rfl
@[simp] theorem emitTxS_pendBuf (f : Bytes) : (s.emitTxS f).pendBuf = s.pendBuf := rfl
@[simp] theorem emitTxS_sendTs (f : Bytes) : (s.emitTxS f).sendTs = s.sendTs := rfl
@[simp] theorem emitTxS_estTimeout (f : Bytes) : (s.emitTxS f).estTimeout = s.estTimeout := rfl
@[simp] theorem emitTxS_lastRtt (f : Bytes) : (s.emitTxS f).lastRtt = s.lastRtt := rfl
@[simp] theorem emitTxS_bytesSent (f : Bytes) : (s.emitTxS f).bytesSent = s.bytesSent := rfl
@[simp] theorem emitTxS_tmrArmed (f : Bytes) : (s.emitTxS f).tmrArmed = s.tmrArmed := rfl
@[simp] theorem emitTxS_tmrPend (f : Bytes) : (s.emitTxS f).tmrPend = s.tmrPend := rfl
@[simp] theorem emitTxS_tmrCount (f : Bytes) : (s.emitTxS f).tmrCount = s.tmrCount := rfl
@[simp] theorem emitTxS_now (f : Bytes) : (s.emitTxS f).now = s.now := rfl
@[simp] theorem emitTxS_expected (f : Bytes) : (s.emitTxS f).expected = s.expected := rfl
@[simp] theorem emitTxS_txS (f : Bytes) : (s.emitTxS f).txS = s.txS ++ [f] := rfl
@[simp] theorem emitTxS_txR (f : Bytes) : (s.emitTxS f).txR = s.txR := rfl
@[simp] theorem emitTxS_deliver (f : Bytes) : (s.emitTxS f).deliver = s.deliver := rfl
@[simp] theorem emitTxS_cfg (f : Bytes) : (s.emitTxS f).cfg = s.cfg := rfl
@[simp] theorem emitTxS_port (f : Bytes) : (s.emitTxS f).port = s.port := rfl
@[simp] theorem emitTxS_resp (f : Bytes) : (s.emitTxS f).resp = s.resp := rfl
@[simp] theorem emitTxS_schedule (f : Bytes) : (s.emitTxS f).schedule = s.schedule := rfl
@[simp] theorem emitTxS_rngS (f : Bytes) : (s.emitTxS f).rngS = s.rngS := rfl
@[simp] theorem emitTxS_rngR (f : Bytes) : (s.emitTxS f).rngR = s.rngR := rfl

/-! ### `emitTxR` -/
@[simp] theorem emitTxR_sndState (f : Bytes) : (s.emitTxR f).sndState = s.sndState := rfl
@[simp] theorem emitTxR_shutdown (f : Bytes) : (s.emitTxR f).shutdown = s.shutdown := rfl
@[simp] theorem emitTxR_pendValid (f : Bytes) : (s.emitTxR f).pendValid = s.pendValid := rfl
@[simp] theorem emitTxR_pendLen (f : Bytes) : (s.emitTxR f).pendLen = s.pendLen := rfl
@[simp] theorem emitTxR_pendBuf (f : Bytes) : (s.emitTxR f).pendBuf = s.pendBuf := rfl
@[simp] theorem emitTxR_sendTs (f : Bytes) : (s.emitTxR f).sendTs = s.sendTs := rfl
@[simp] theorem emitTxR_estTimeout (f : Bytes) : (s.emitTxR f).estTimeout = s.estTimeout := rfl
@[simp] theorem emitTxR_lastRtt (f : Bytes) : (s.emitTxR f).lastRtt = s.lastRtt := rfl
@[simp] theorem emitTxR_bytesSent (f : Bytes) : (s.emitTxR f).bytesSent = s.bytesSent := rfl
@[simp] theorem emitTxR_tmrArmed (f : Bytes) : (s.emitTxR f).tmrArmed = s.tmrArmed := rfl
@[simp] theorem emitTxR_tmrPend (f : Bytes) : (s.emitTxR f).tmrPend = s.tmrPend := rfl
@[simp] theorem emitTxR_tmrCount (f : Bytes) : (s.emitTxR f).tmrCount = s.tmrCount := rfl
@[simp] theorem emitTxR_now (f : Bytes) : (s.emitTxR f).now = s.now := rfl
@[simp] theorem emitTxR_expected (f : Bytes) : (s.emitTxR f).expected = s.expected := rfl
@[simp] theorem emitTxR_txS (f : Bytes) : (s.emitTxR f).txS = s.txS := rfl
@[simp] theorem emitTxR_txR (f : Bytes) : (s.emitTxR f).txR = s.txR ++ [f] := rfl
@[simp] theorem emitTxR_deliver (f : Bytes) : (s.emitTxR f).deliver = s.deliver := rfl
@[simp] theorem emitTxR_cfg (f : Bytes) : (s.emitTxR f).cfg = s.cfg := rfl
@[simp] theorem emitTxR_port (f : Bytes) : (s.emitTxR f).port = s.port := rfl
@[simp] theorem emitTxR_resp (f : Bytes) : (s.emitTxR f).resp = s.resp := rfl
@[simp] theorem emitTxR_schedule (f : Bytes) : (s.emitTxR f).schedule = s.schedule := rfl
@[simp] theorem emitTxR_rngS (f : Bytes) : (s.emitTxR f).rngS = s.rngS := rfl
@[simp] theorem emitTxR_rngR (f : Bytes) : (s.emitTxR f).rngR = s.rngR := rfl

/-! ### `emitDeliver` -/
@[simp] theorem emitDeliver_sndState (f : Bytes) : (s.emitDeliver f).sndState = s.sndState := rfl
@[simp] theorem emitDeliver_shutdown (f : Bytes) : (s.emitDeliver f).shutdown = s.shutdown := rfl
@[simp] theorem emitDeliver_pendValid (f : Bytes) : (s.emitDeliver f).pendValid = s.pendValid := rfl
@[simp] theorem emitDeliver_pendLen (f : Bytes) : (s.emitDeliver f).pendLen = s.pendLen := rfl
@[simp] theorem emitDeliver_pendBuf (f : Bytes) : (s.emitDeliver f).pendBuf = s.pendBuf := rfl
@[simp] theorem emitDeliver_sendTs (f : Bytes) : (s.emitDeliver f).sendTs = s.sendTs := rfl
@[simp] theorem emitDeliver_estTimeout (f : Bytes) : (s.emitDeliver f).estTimeout = s.estTimeout := rfl
@[simp] theorem emitDeliver_lastRtt (f : Bytes) : (s.emitDeliver f).lastRtt = s.lastRtt := rfl
@[simp] theorem emitDeliver_bytesSent (f : Bytes) : (s.emitDeliver f).bytesSent = s.bytesSent := rfl
@[simp] theorem emitDeliver_tmrArmed (f : Bytes) : (s.emitDeliver f).tmrArmed = s.tmrArmed := rfl
@[simp] theorem emitDeliver_tmrPend (f : Bytes) : (s.emitDeliver f).tmrPend = s.tmrPend := rfl
@[simp] theorem emitDeliver_tmrCount (f : Bytes) : (s.emitDeliver f).tmrCount = s.tmrCount := rfl
@[simp] theorem emitDeliver_now (f : Bytes) : (s.emitDeliver f).now = s.now := rfl
@[simp] theorem emitDeliver_expected (f : Bytes) : (s.emitDeliver f).expected = s.expected := rfl
@[simp] theorem emitDeliver_txS (f : Bytes) : (s.emitDeliver f).txS = s.txS := rfl
@[simp] theorem emitDeliver_txR (f : Bytes) : (s.emitDeliver f).txR = s.txR := rfl
@[simp] theorem emitDeliver_deliver (f : Bytes) : (s.emitDeliver f).deliver = s.deliver ++ [f] := rfl
@[simp] theorem emitDeliver_cfg (f : Bytes) : (s.emitDeliver f).cfg = s.cfg := rfl
@[simp] theorem emitDeliver_port (f : Bytes) : (s.emitDeliver f).port = s.port := rfl
@[simp] theorem emitDeliver_resp (f : Bytes) : (s.emitDeliver f).resp = s.resp := rfl
@[simp] theorem emitDeliver_schedule (f : Bytes) : (s.emitDeliver f).schedule = s.schedule := rfl
@[simp] theorem emitDeliver_rngS (f : Bytes) : (s.emitDeliver f).rngS = s.rngS := rfl
@[simp] theorem emitDeliver_rngR (f : Bytes) : (s.emitDeliver f).rngR = s.rngR := rfl

/-! ### `storePending` -/
@[simp] theorem storePending_sndState (f : Bytes) : (s.storePending f).sndState = s.sndState := rfl
@[simp] theorem storePending_shutdown (f : Bytes) : (s.storePending f).shutdown = s.shutdown := rfl
@[simp] theorem storePending_pendValid (f : Bytes) : (s.storePending f).pendValid = true := rfl
@[simp] theorem storePending_pendLen (f : Bytes) : (s.storePending f).pendLen = BitVec.ofNat 16 f.length := rfl
@[simp] theorem storePending_pendBuf (f : Bytes) : (s.storePending f).pendBuf = f ++ s.pendBuf.drop f.length := rfl
@[simp] theorem storePending_sendTs (f : Bytes) : (s.storePending f).sendTs = s.sendTs := rfl
@[simp] theorem storePending_estTimeout (f : Bytes) : (s.storePending f).estTimeout = s.estTimeout := rfl
@[simp] theorem storePending_lastRtt (f : Bytes) : (s.storePending f).lastRtt = s.lastRtt := rfl
@[simp] theorem storePending_bytesSent (f : Bytes) : (s.storePending f).bytesSent = s.bytesSent := rfl
@[simp] theorem storePending_tmrArmed (f : Bytes) : (s.storePending f).tmrArmed = s.tmrArmed := rfl
@[simp] theorem storePending_tmrPend (f : Bytes) : (s.storePending f).tmrPend = s.tmrPend := rfl
@[simp] theorem storePending_tmrCount (f : Bytes) : (s.storePending f).tmrCount = s.tmrCount := rfl
@[simp] theorem storePending_now (f : Bytes) : (s.storePending f).now = s.now := rfl
@[simp] theorem storePending_expected (f : Bytes) : (s.storePending f).expected = s.expected := rfl
@[simp] theorem storePending_txS (f : Bytes) : (s.storePending f).txS = s.txS := rfl
@[simp] theorem storePending_txR (f : Bytes) : (s.storePending f).txR = s.txR := rfl
@[simp] theorem storePending_deliver (f : Bytes) : (s.storePending f).deliver = s.deliver := rfl
@[simp] theorem storePending_cfg (f : Bytes) : (s.storePending f).cfg = s.cfg := rfl
@[simp] theorem storePending_port (f : Bytes) : (s.storePending f).port = s.port := rfl
@[simp] theorem storePending_resp (f : Bytes) : (s.storePending f).resp = s.resp := rfl
@[simp] theorem storePending_schedule (f : Bytes) : (s.storePending f).schedule = s.schedule := rfl
@[simp] theorem storePending_rngS (f : Bytes) : (s.storePending f).rngS = s.rngS := rfl
@[simp] theorem storePending_rngR (f : Bytes) : (s.storePending f).rngR = s.rngR := rfl

/-! ### `releasePending` -/
@[simp] theorem releasePending_sndState : (s.releasePending).sndState = s.sndState := rfl
@[simp] theorem releasePending_shutdown : (s.releasePending).shutdown = s.shutdown := rfl
@[simp] theorem releasePending_pendValid : (s.releasePending).pendValid = false := rfl
@[simp] theorem releasePending_pendLen : (s.releasePending).pendLen = 0#16 := rfl
@[simp] theorem releasePending_pendBuf : (s.releasePending).pendBuf = s.pendBuf := rfl
@[simp] theorem releasePending_sendTs : (s.releasePending).sendTs = s.sendTs := rfl
@[simp] theorem releasePending_estTimeout : (s.releasePending).estTimeout = s.estTimeout := rfl
@[simp] theorem releasePending_lastRtt : (s.releasePending).lastRtt = s.lastRtt := rfl
@[simp] theorem releasePending_bytesSent : (s.releasePending).bytesSent = s.bytesSent := rfl
@[simp] theorem releasePending_tmrArmed : (s.releasePending).tmrArmed = s.tmrArmed := rfl
@[simp] theorem releasePending_tmrPend : (s.releasePending).tmrPend = s.tmrPend := rfl
@[simp] theorem releasePending_tmrCount : (s.releasePending).tmrCount = s.tmrCount := rfl
@[simp] theorem releasePending_now : (s.releasePending).now = s.now := rfl
@[simp] theorem releasePending_expected : (s.releasePending).expected = s.expected := rfl
@[simp] theorem releasePending_txS : (s.releasePending).txS = s.txS := rfl
@[simp] theorem releasePending_txR : (s.releasePending).txR = s.txR := rfl
@[simp] theorem releasePending_deliver : (s.releasePending).deliver = s.deliver := rfl
@[simp] theorem releasePending_cfg : (s.releasePending).cfg = s.cfg := rfl
@[simp] theorem releasePending_port : (s.releasePending).port = s.port := rfl
@[simp] theorem releasePending_resp : (s.releasePending).resp = s.resp := rfl
@[simp] theorem releasePending_schedule : (s.releasePending).schedule = s.schedule := rfl
@[simp] theorem releasePending_rngS : (s.releasePending).rngS = s.rngS := rfl
@[simp] theorem releasePending_rngR : (s.releasePending).rngR = s.rngR := rfl

/-! ### `transmit` -/
@[simp] theorem transmit_sndState (f : Bytes) : (s.transmit f).sndState = s.sndState := rfl
@[simp] theorem transmit_shutdown (f : Bytes) : (s.transmit f).shutdown = s.shutdown := rfl
@[simp] theorem transmit_pendValid (f : Bytes) : (s.transmit f).pendValid = s.pendValid := rfl
@[simp] theorem transmit_pendLen (f : Bytes) : (s.transmit f).pendLen = s.pendLen := rfl
@[simp] theorem transmit_pendBuf (f : Bytes) : (s.transmit f).pendBuf = s.pendBuf := rfl
@[simp] theorem transmit_sendTs (f : Bytes) : (s.transmit f).sendTs = s.now := rfl
@[simp] theorem transmit_estTimeout (f : Bytes) : (s.transmit f).estTimeout = s.estTimeout := rfl
@[simp] theorem transmit_lastRtt (f : Bytes) : (s.transmit f).lastRtt = s.lastRtt := rfl
@[simp] theorem transmit_bytesSent (f : Bytes) : (s.transmit f).bytesSent = s.bytesSent := rfl
@[simp] theorem transmit_tmrArmed (f : Bytes) : (s.transmit f).tmrArmed = true := rfl
@[simp] theorem transmit_tmrPend (f : Bytes) : (s.transmit f).tmrPend = false := rfl
@[simp] theorem transmit_tmrCount (f : Bytes) : (s.transmit f).tmrCount = s.estTimeout := rfl
@[simp] theorem transmit_now (f : Bytes) : (s.transmit f).now = s.now := rfl
@[simp] theorem transmit_expected (f : Bytes) : (s.transmit f).expected = s.expected := rfl
@[simp] theorem transmit_txS (f : Bytes) : (s.transmit f).txS = s.txS ++ [f] := rfl
@[simp] theorem transmit_txR (f : Bytes) : (s.transmit f).txR = s.txR := rfl
@[simp] theorem transmit_deliver (f : Bytes) : (s.transmit f).deliver = s.deliver := rfl
@[simp] theorem transmit_cfg (f : Bytes) : (s.transmit f).cfg = s.cfg := rfl
@[simp] theorem transmit_port (f : Bytes) : (s.transmit f).port = s.port := rfl
@[simp] theorem transmit_resp (f : Bytes) : (s.transmit f).resp = s.resp := rfl
@[simp] theorem transmit_schedule (f : Bytes) : (s.transmit f).schedule = s.schedule := rfl
@[simp] theorem transmit_rngS (f : Bytes) : (s.transmit f).rngS = s.rngS := rfl
@[simp] theorem transmit_rngR (f : Bytes) : (s.transmit f).rngR = s.rngR := rfl

/-! ### `takeTxS` -/
@[simp] theorem takeTxS_sndState : (s.takeTxS).sndState = s.sndState := rfl
@[simp] theorem takeTxS_shutdown : (s.takeTxS).shutdown = s.shutdown := rfl
@[simp] theorem takeTxS_pendValid : (s.takeTxS).pendValid = s.pendValid := rfl
@[simp] theorem takeTxS_pendLen : (s.takeTxS).pendLen = s.pendLen := rfl
@[simp] theorem takeTxS_pendBuf : (s.takeTxS).pendBuf = s.pendBuf := rfl
@[simp] theorem takeTxS_sendTs : (s.takeTxS).sendTs = s.sendTs := rfl
@[simp] theorem takeTxS_estTimeout : (s.takeTxS).estTimeout = s.estTimeout := rfl
@[simp] theorem takeTxS_lastRtt : (s.takeTxS).lastRtt = s.lastRtt := rfl
@[simp] theorem takeTxS_bytesSent : (s.takeTxS).bytesSent = s.bytesSent := rfl
@[simp] theorem takeTxS_tmrArmed : (s.takeTxS).tmrArmed = s.tmrArmed := rfl
@[simp] theorem takeTxS_tmrPend : (s.takeTxS).tmrPend = s.tmrPend := rfl
@[simp] theorem takeTxS_tmrCount : (s.takeTxS).tmrCount = s.tmrCount := rfl
@[simp] theorem takeTxS_now : (s.takeTxS).now = s.now := rfl
@[simp] theorem takeTxS_expected : (s.takeTxS).expected = s.expected := rfl
@[simp] theorem takeTxS_txS : (s.takeTxS).txS = s.txS.tail := rfl
@[simp] theorem takeTxS_txR : (s.takeTxS).txR = s.txR := rfl
@[simp] theorem takeTxS_deliver : (s.takeTxS).deliver = s.deliver := rfl
@[simp] theorem takeTxS_cfg : (s.takeTxS).cfg = s.cfg := rfl
@[simp] theorem takeTxS_port : (s.takeTxS).port = s.port := rfl
@[simp] theorem takeTxS_resp : (s.takeTxS).resp = s.resp := rfl
@[simp] theorem takeTxS_schedule : (s.takeTxS).schedule = s.schedule := rfl
@[simp] theorem takeTxS_rngS : (s.takeTxS).rngS = s.rngS := rfl
@[simp] theorem takeTxS_rngR : (s.takeTxS).rngR = s.rngR := rfl

/-! ### `takeTxR` -/
@[simp] theorem takeTxR_sndState : (s.takeTxR).sndState = s.sndState := rfl
@[simp] theorem takeTxR_shutdown : (s.takeTxR).shutdown = s.shutdown := rfl
@[simp] theorem takeTxR_pendValid : (s.takeTxR).pendValid = s.pendValid := rfl
@[simp] theorem takeTxR_pendLen : (s.takeTxR).pendLen = s.pendLen := rfl
@[simp] theorem takeTxR_pendBuf : (s.takeTxR).pendBuf = s.pendBuf := rfl
@[simp] theorem takeTxR_sendTs : (s.takeTxR).sendTs = s.sendTs := rfl
@[simp] theorem takeTxR_estTimeout : (s.takeTxR).estTimeout = s.estTimeout := rfl
@[simp] theorem takeTxR_lastRtt : (s.takeTxR).lastRtt = s.lastRtt := rfl
@[simp] theorem takeTxR_bytesSent : (s.takeTxR).bytesSent = s.bytesSent := rfl
@[simp] theorem takeTxR_tmrArmed : (s.takeTxR).tmrArmed = s.tmrArmed := rfl
@[simp] theorem takeTxR_tmrPend : (s.takeTxR).tmrPend = s.tmrPend := rfl
@[simp] theorem takeTxR_tmrCount : (s.takeTxR).tmrCount = s.tmrCount := rfl
@[simp] theorem takeTxR_now : (s.takeTxR).now = s.now := rfl
@[simp] theorem takeTxR_expected : (s.takeTxR).expected = s.expected := rfl
@[simp] theorem takeTxR_txS : (s.takeTxR).txS = s.txS := rfl
@[simp] theorem takeTxR_txR : (s.takeTxR).txR = s.txR.tail := rfl
@[simp] theorem takeTxR_deliver : (s.takeTxR).deliver = s.deliver := rfl
@[simp] theorem takeTxR_cfg : (s.takeTxR).cfg = s.cfg := rfl
@[simp] theorem takeTxR_port : (s.takeTxR).port = s.port := rfl
@[simp] theorem takeTxR_resp : (s.takeTxR).resp = s.resp := rfl
@[simp] theorem takeTxR_schedule : (s.takeTxR).schedule = s.schedule := rfl
@[simp] theorem takeTxR_rngS : (s.takeTxR).rngS = s.rngS := rfl
@[simp] theorem takeTxR_rngR : (s.takeTxR).rngR = s.rngR := rfl

/-! ### `takeDeliver` -/
@[simp] theorem takeDeliver_sndState : (s.takeDeliver).sndState = s.sndState := rfl
@[simp] theorem takeDeliver_shutdown : (s.takeDeliver).shutdown = s.shutdown := rfl
@[simp] theorem takeDeliver_pendValid : (s.takeDeliver).pendValid = s.pendValid := rfl
@[simp] theorem takeDeliver_pendLen : (s.takeDeliver).pendLen = s.pendLen := rfl
@[simp] theorem takeDeliver_pendBuf : (s.takeDeliver).pendBuf = s.pendBuf := rfl
@[simp] theorem takeDeliver_sendTs : (s.takeDeliver).sendTs = s.sendTs := rfl
@[simp] theorem takeDeliver_estTimeout : (s.takeDeliver).estTimeout = s.estTimeout := rfl
@[simp] theorem takeDeliver_lastRtt : (s.takeDeliver).lastRtt = s.lastRtt := rfl
@[simp] theorem takeDeliver_bytesSent : (s.takeDeliver).bytesSent = s.bytesSent := rfl
@[simp] theorem takeDeliver_tmrArmed : (s.takeDeliver).tmrArmed = s.tmrArmed := rfl
@[simp] theorem takeDeliver_tmrPend : (s.takeDeliver).tmrPend = s.tmrPend := rfl
@[simp] theorem takeDeliver_tmrCount : (s.takeDeliver).tmrCount = s.tmrCount := rfl
@[simp] theorem takeDeliver_now : (s.takeDeliver).now = s.now := rfl
@[simp] theorem takeDeliver_expected : (s.takeDeliver).expected = s.expected := rfl
@[simp] theorem takeDeliver_txS : (s.takeDeliver).txS = s.txS := rfl
@[simp] theorem takeDeliver_txR : (s.takeDeliver).txR = s.txR := rfl
@[simp] theorem takeDeliver_deliver : (s.takeDeliver).deliver = s.deliver.tail := rfl
@[simp] theorem takeDeliver_cfg : (s.takeDeliver).cfg = s.cfg := rfl
@[simp] theorem takeDeliver_port : (s.takeDeliver).port = s.port := rfl
@[simp] theorem takeDeliver_resp : (s.takeDeliver).resp = s.resp := rfl
@[simp] theorem takeDeliver_schedule : (s.takeDeliver).schedule = s.schedule := rfl
@[simp] theorem takeDeliver_rngS : (s.takeDeliver).rngS = s.rngS := rfl
@[simp] theorem takeDeliver_rngR : (s.takeDeliver).rngR = s.rngR := rfl

end State
end Sys2Proof.Machine
end

