-- ==== Sys2Proof/Laws/Frame.lean ====
section
/-! SUPPORT. Lemmas about the Codec's functions: splitting at separators, decimal text, and the pending buffer. -/

namespace Sys2Proof.Machine

/-! ### Splitting (30_encoding.md R73) -/

theorem cutAtSep_append (f r : Bytes) (h : ∀ b ∈ f, b ≠ sepByte) :
    cutAtSep (f ++ sepByte :: r) = some (f, r) := by
  induction f with
  | nil => simp [cutAtSep]
  | cons b f ih =>
    have hb : b ≠ sepByte := h b (by simp)
    have ih' := ih (fun x hx => h x (by simp [hx]))
    simp [cutAtSep, hb, ih']

theorem cutAtSep_eq_some (x f r : Bytes) (h : cutAtSep x = some (f, r)) :
    x = f ++ sepByte :: r ∧ ∀ b ∈ f, b ≠ sepByte := by
  induction x generalizing f r with
  | nil => simp [cutAtSep] at h
  | cons b x ih =>
    by_cases hb : b = sepByte
    · simp [cutAtSep, hb] at h
      obtain ⟨rfl, rfl⟩ := h
      simp [hb]
    · cases hc : cutAtSep x with
      | none => simp [cutAtSep, hb, hc] at h
      | some y =>
        obtain ⟨g, t⟩ := y
        simp [cutAtSep, hb, hc] at h
        obtain ⟨rfl, rfl⟩ := h
        obtain ⟨rfl, hg⟩ := ih g t hc
        refine ⟨by simp, ?_⟩
        intro z hz
        rcases List.mem_cons.mp hz with rfl | hz
        · exact hb
        · exact hg z hz

/-- A frame whose header fields hold no separator splits into exactly its fields. -/
theorem splitFrame_append (f1 f2 f3 f4 p : Bytes) (h1 : ∀ b ∈ f1, b ≠ sepByte) (h2 : ∀ b ∈ f2, b ≠ sepByte)
    (h3 : ∀ b ∈ f3, b ≠ sepByte) (h4 : ∀ b ∈ f4, b ≠ sepByte) :
    splitFrame (f1 ++ sepByte :: (f2 ++ sepByte :: (f3 ++ sepByte :: (f4 ++ sepByte :: p))))
      = some { f1 := f1, f2 := f2, f3 := f3, f4 := f4, payload := p } := by
  simp only [splitFrame, cutAtSep_append f1 _ h1, cutAtSep_append f2 _ h2, cutAtSep_append f3 _ h3,
    cutAtSep_append f4 _ h4]

/-- The split of a frame is a decomposition of it. -/
theorem splitFrame_eq_some (frame : Bytes) (x : SplitFrame) (h : splitFrame frame = some x) :
    frame = x.f1 ++ sepByte :: (x.f2 ++ sepByte :: (x.f3 ++ sepByte :: (x.f4 ++ sepByte :: x.payload))) := by
  unfold splitFrame at h
  split at h
  · simp at h
  · next f1 r1 e1 =>
    split at h
    · simp at h
    · next f2 r2 e2 =>
      split at h
      · simp at h
      · next f3 r3 e3 =>
        split at h
        · simp at h
        · next f4 p e4 =>
          simp only [Option.some.injEq] at h
          subst h
          rw [(cutAtSep_eq_some _ _ _ e1).1, (cutAtSep_eq_some _ _ _ e2).1, (cutAtSep_eq_some _ _ _ e3).1,
            (cutAtSep_eq_some _ _ _ e4).1]

/-! ### Decimal text (40_codec.md R107, R109, R111) -/

theorem isDigit_iff (b : Byte) : isDigit b = true ↔ 0x30 ≤ b.toNat ∧ b.toNat ≤ 0x39 := by
  simp [isDigit]

theorem isDigit_ne_sep (b : Byte) (h : isDigit b = true) : b ≠ sepByte := by
  rintro rfl
  revert h
  decide

theorem isDigits_iff (g : Bytes) : isDigits g = true ↔ DigitString g := by
  simp [isDigits, DigitString, isDigit_iff, and_assoc]

theorem digitByte_toNat (k : Nat) (h : k < 10) : (digitByte k).toNat = 48 + k := by
  simp only [digitByte, BitVec.toNat_ofNat]
  omega

theorem digitsOf_all (fuel u : Nat) : ∀ b ∈ digitsOf fuel u, isDigit b = true := by
  induction fuel generalizing u with
  | zero => simp [digitsOf]
  | succ n ih =>
    intro b hb
    simp only [digitsOf] at hb
    split at hb
    · simp only [List.mem_singleton] at hb
      subst hb
      rw [isDigit_iff, digitByte_toNat u ‹_›]
      omega
    · rcases List.mem_append.mp hb with hb | hb
      · exact ih _ b hb
      · simp only [List.mem_singleton] at hb
        subst hb
        rw [isDigit_iff, digitByte_toNat _ (Nat.mod_lt _ (by decide))]
        omega

theorem digitsOf_length (fuel u : Nat) (h : 0 < fuel) :
    1 ≤ (digitsOf fuel u).length ∧ (digitsOf fuel u).length ≤ fuel := by
  induction fuel generalizing u with
  | zero => omega
  | succ n ih =>
    simp only [digitsOf]
    split
    · simp
    · by_cases hn : 0 < n
      · have := ih (u / 10) hn
        simp only [List.length_append, List.length_cons, List.length_nil]
        omega
      · have : n = 0 := by omega
        subst this
        simp [digitsOf]

theorem digitsValue_append_one (g : Bytes) (b : Byte) :
    digitsValue (g ++ [b]) = 10 * digitsValue g + (b.toNat - 48) := by
  simp [digitsValue]

/-- The digits of `u` read as `u`, if they fit in `fuel` digits. -/
theorem digitsValue_digitsOf (fuel u : Nat) (h : u < 10 ^ fuel) : digitsValue (digitsOf fuel u) = u := by
  induction fuel generalizing u with
  | zero =>
    simp only [Nat.pow_zero, Nat.lt_one_iff] at h
    simp [digitsOf, digitsValue, h]
  | succ n ih =>
    simp only [digitsOf]
    split
    · simp only [digitsValue, List.foldl_cons, List.foldl_nil, digitByte_toNat u ‹_›]
      omega
    · have hu : u / 10 < 10 ^ n := by
        rw [Nat.pow_succ] at h
        omega
      rw [digitsValue_append_one, ih _ hu, digitByte_toNat _ (Nat.mod_lt _ (by decide))]
      omega

/-- The exact sum of 40_codec.md R109 is the value the parser computes. -/
theorem digitsValue_eq_decimalValue (g : Bytes) : digitsValue g = decimalValue g := by
  have h : ∀ (acc : Nat) (g : Bytes),
      g.foldl (fun acc b => 10 * acc + (b.toNat - 48)) acc = acc * 10 ^ g.length + decimalValue g := by
    intro acc g
    induction g generalizing acc with
    | nil => simp [decimalValue]
    | cons b g ih =>
      simp only [List.foldl_cons, List.length_cons, decimalValue, ih]
      ring
  rw [digitsValue, h 0 g]
  omega

/-! ### The pending buffer (10_state.md R41) -/

theorem pendingFrame_storePending (s : State) (f : Bytes) (h : f.length < 65536) :
    (s.storePending f).pendingFrame = f := by
  simp only [State.pendingFrame, State.storePending_pendBuf, State.storePending_pendLen, BitVec.toNat_ofNat]
  rw [Nat.mod_eq_of_lt (by omega)]
  simp

theorem storePending_pendBuf_length (s : State) (f : Bytes) (h : f.length ≤ s.pendBuf.length) :
    (s.storePending f).pendBuf.length = s.pendBuf.length := by
  simp only [State.storePending_pendBuf, List.length_append, List.length_drop]
  omega

end Sys2Proof.Machine
end

