-- ==== Sys2Proof/Laws/Ops.lean ====
section
/-! SUPPORT. For each shared operation one lemma that says once everything it can do, and for each command one
inversion lemma, so that later proofs cite these instead of unfolding. -/

namespace Sys2Proof.Machine

/-! ### Limits and room -/

theorem hasRoom_iff (cfg : Config) (fifo : List Bytes) : hasRoom cfg fifo = true ↔ fifo.length < cfg.outDepth := by
  simp [hasRoom]

theorem hasRoom_eq_false_iff (cfg : Config) (fifo : List Bytes) :
    hasRoom cfg fifo = false ↔ cfg.outDepth ≤ fifo.length := by
  simp [hasRoom]

theorem payloadTooLong_iff (cfg : Config) (data : Bytes) :
    payloadTooLong cfg data = true ↔ maxPayload cfg < data.length := by
  simp [payloadTooLong]

theorem payloadTooLong_eq_false_iff (cfg : Config) (data : Bytes) :
    payloadTooLong cfg data = false ↔ data.length ≤ maxPayload cfg := by
  simp [payloadTooLong]

theorem frameTooLong_iff (cfg : Config) (data : Bytes) :
    frameTooLong cfg data = true ↔ cfg.maxFrame < data.length := by
  simp [frameTooLong]

theorem frameTooLong_eq_false_iff (cfg : Config) (data : Bytes) :
    frameTooLong cfg data = false ↔ data.length ≤ cfg.maxFrame := by
  simp [frameTooLong]

theorem configValid_iff (cfg : Config) :
    configValid cfg = true ↔
      1 ≤ cfg.initTimeout ∧ cfg.initTimeout ≤ 4294967295 ∧ 1 ≤ cfg.alphaQ8 ∧ cfg.alphaQ8 ≤ 255
        ∧ cfg.pLossQ16 ≤ 65536 ∧ cfg.pCorruptQ16 ≤ 65536 ∧ 64 ≤ cfg.maxFrame ∧ cfg.maxFrame ≤ 65535
        ∧ 1 ≤ cfg.outDepth ∧ cfg.outDepth ≤ 65535 := by
  simp [configValid, and_assoc]

/-! ### Sender states -/

@[simp] theorem awaitState_awaiting (b : Bool) : (awaitState b).awaiting = true := by cases b <;> rfl
@[simp] theorem awaitState_bit (b : Bool) : (awaitState b).bit = b := by cases b <;> rfl
@[simp] theorem readyState_awaiting (b : Bool) : (readyState b).awaiting = false := by cases b <;> rfl
@[simp] theorem readyState_bit (b : Bool) : (readyState b).bit = b := by cases b <;> rfl

theorem codeValue_eq_some (code : BitVec 2) (h : code ≠ 0b10#2) : codeValue code = some (code.signExtend 32) := by
  simp [codeValue, h]

theorem codeValue_reserved : codeValue 0b10#2 = none := rfl

/-! ### The inbound path -/

theorem inject_cases (cfg : Config) (rLoss rCorrupt : BitVec 16) :
    (rLoss.toNat < cfg.pLossQ16 ∧ inject cfg rLoss rCorrupt = .drop)
    ∨ (cfg.pLossQ16 ≤ rLoss.toNat ∧ rCorrupt.toNat < cfg.pCorruptQ16 ∧ inject cfg rLoss rCorrupt = .pass true)
    ∨ (cfg.pLossQ16 ≤ rLoss.toNat ∧ cfg.pCorruptQ16 ≤ rCorrupt.toNat
        ∧ inject cfg rLoss rCorrupt = .pass false) := by
  unfold inject
  by_cases h1 : rLoss.toNat < cfg.pLossQ16
  · exact .inl ⟨h1, if_pos h1⟩
  · by_cases h2 : rCorrupt.toNat < cfg.pCorruptQ16
    · exact .inr (.inl ⟨Nat.le_of_not_lt h1, h2, by simp [h1, h2]⟩)
    · exact .inr (.inr ⟨Nat.le_of_not_lt h1, Nat.le_of_not_lt h2, by simp [h1, h2]⟩)

/-- A frame that arrives is malformed only if its packet is corrupt (30_encoding.md R88). -/
theorem isMalformed_isCorrupt (frame : Bytes) (h : isMalformed frame = true) :
    (decodeFrame frame).isCorrupt = true := by
  unfold isMalformed at h
  unfold decodeFrame
  rw [Option.isNone_iff_eq_none.mp h]
  rfl

theorem isMalformed_of_not_corrupt (frame : Bytes) (h : (decodeFrame frame).isCorrupt = false) :
    isMalformed frame = false := by
  cases hm : isMalformed frame
  · rfl
  · rw [isMalformed_isCorrupt frame hm] at h
    exact absurd h (by decide)

/-- Everything the inbound path of the Sender can give. -/
theorem inboundS_cases (s : State) (data : Bytes) :
    (s.dropsS = true ∧ s.inboundS data = .dropped (flagsByte false false false false (isTruncated s.cfg data)))
    ∨ ∃ forced : Bool, s.dropsS = false ∧ s.forcesS = forced ∧ s.cleanS = !forced
        ∧ s.inboundS data = .arrived (markPacket (decodeFrame (cutFrame s.cfg data)) forced)
            (flagsByte (decodeFrame (cutFrame s.cfg data)).isAck
              ((decodeFrame (cutFrame s.cfg data)).isCorrupt || forced)
              (isMalformed (cutFrame s.cfg data)) forced (isTruncated s.cfg data)) := by
  rcases inject_cases s.cfg (s.rngS.value Config.freeDrawS 0) (s.rngS.value Config.freeDrawS 1) with
    ⟨h, hi⟩ | ⟨h1, h2, hi⟩ | ⟨h1, h2, hi⟩
  · refine .inl ⟨decide_eq_true h, ?_⟩
    simp only [State.inboundS, inbound, hi]
  · have hd : s.dropsS = false := decide_eq_false (Nat.not_lt.mpr h1)
    have hf : decide (s.corruptDrawS < s.cfg.pCorruptQ16) = true := decide_eq_true h2
    have hn : decide (s.cfg.pCorruptQ16 ≤ s.corruptDrawS) = false := decide_eq_false (Nat.not_le.mpr h2)
    refine .inr ⟨true, hd, ?_, ?_, ?_⟩
    · rw [State.forcesS, hd, hf]; rfl
    · rw [State.cleanS, hd, hn]; rfl
    · simp only [State.inboundS, inbound, hi, markPacket]
  · have hd : s.dropsS = false := decide_eq_false (Nat.not_lt.mpr h1)
    have hf : decide (s.corruptDrawS < s.cfg.pCorruptQ16) = false := decide_eq_false (Nat.not_lt.mpr h2)
    have hn : decide (s.cfg.pCorruptQ16 ≤ s.corruptDrawS) = true := decide_eq_true h2
    refine .inr ⟨false, hd, ?_, ?_, ?_⟩
    · rw [State.forcesS, hd, hf]; rfl
    · rw [State.cleanS, hd, hn]; rfl
    · simp only [State.inboundS, inbound, hi, markPacket]

/-- Everything the inbound path of the Receiver can give. -/
theorem inboundR_cases (s : State) (data : Bytes) :
    (s.dropsR = true ∧ s.inboundR data = .dropped (flagsByte false false false false (isTruncated s.cfg data)))
    ∨ ∃ forced : Bool, s.dropsR = false ∧ s.forcesR = forced ∧ s.cleanR = !forced
        ∧ s.inboundR data = .arrived (markPacket (decodeFrame (cutFrame s.cfg data)) forced)
            (flagsByte (decodeFrame (cutFrame s.cfg data)).isAck
              ((decodeFrame (cutFrame s.cfg data)).isCorrupt || forced)
              (isMalformed (cutFrame s.cfg data)) forced (isTruncated s.cfg data)) := by
  rcases inject_cases s.cfg (s.rngR.value Config.freeDrawR 0) (s.rngR.value Config.freeDrawR 1) with
    ⟨h, hi⟩ | ⟨h1, h2, hi⟩ | ⟨h1, h2, hi⟩
  · refine .inl ⟨decide_eq_true h, ?_⟩
    simp only [State.inboundR, inbound, hi]
  · have hd : s.dropsR = false := decide_eq_false (Nat.not_lt.mpr h1)
    have hf : decide (s.corruptDrawR < s.cfg.pCorruptQ16) = true := decide_eq_true h2
    have hn : decide (s.cfg.pCorruptQ16 ≤ s.corruptDrawR) = false := decide_eq_false (Nat.not_le.mpr h2)
    refine .inr ⟨true, hd, ?_, ?_, ?_⟩
    · rw [State.forcesR, hd, hf]; rfl
    · rw [State.cleanR, hd, hn]; rfl
    · simp only [State.inboundR, inbound, hi, markPacket]
  · have hd : s.dropsR = false := decide_eq_false (Nat.not_lt.mpr h1)
    have hf : decide (s.corruptDrawR < s.cfg.pCorruptQ16) = false := decide_eq_false (Nat.not_lt.mpr h2)
    have hn : decide (s.cfg.pCorruptQ16 ≤ s.corruptDrawR) = true := decide_eq_true h2
    refine .inr ⟨false, hd, ?_, ?_, ?_⟩
    · rw [State.forcesR, hd, hf]; rfl
    · rw [State.cleanR, hd, hn]; rfl
    · simp only [State.inboundR, inbound, hi, markPacket]

/-! ### Timer, handler and events -/

/-- Everything a tick can do. -/
theorem tick_cases (s : State) :
    (s.tmrArmed = false ∧ s.tick = { s with now := s.now + 1#32 })
    ∨ (s.tmrArmed = true ∧ s.tmrCount - 1#32 = 0#32
        ∧ s.tick = { s with now := s.now + 1#32, tmrCount := 0#32, tmrArmed := false, tmrPend := true })
    ∨ (s.tmrArmed = true ∧ s.tmrCount - 1#32 ≠ 0#32
        ∧ s.tick = { s with now := s.now + 1#32, tmrCount := s.tmrCount - 1#32 }) := by
  cases ha : s.tmrArmed
  · exact .inl ⟨rfl, by simp [State.tick, ha]⟩
  · by_cases hc : s.tmrCount - 1#32 = 0#32
    · exact .inr (.inl ⟨rfl, hc, by simp [State.tick, ha, hc]⟩)
    · exact .inr (.inr ⟨rfl, hc, by simp [State.tick, ha, hc]⟩)

/-- Everything the timeout handler can do. -/
theorem onTimeout_cases (s : State) :
    (s.shutdown = true ∧ s.onTimeout = (s, .noBranch))
    ∨ (s.shutdown = false ∧ s.sndState.awaiting = false ∧ s.onTimeout = (s, .ignored))
    ∨ (s.shutdown = false ∧ s.sndState.awaiting = true
        ∧ s.onTimeout = (s.transmit s.pendingFrame, .retransmitted)) := by
  cases h1 : s.shutdown
  · cases h2 : s.sndState.awaiting
    · exact .inr (.inl ⟨rfl, rfl, by simp [State.onTimeout, h1, h2]⟩)
    · exact .inr (.inr ⟨rfl, rfl, by simp [State.onTimeout, h1, h2]⟩)
  · exact .inl ⟨rfl, by simp [State.onTimeout, h1]⟩

/-- Everything the expiry event can do. -/
theorem expire_cases (s : State) :
    (s.expiryEnabled = false ∧ s.expire = s)
    ∨ (s.tmrPend = true ∧ s.timeoutEmits = false ∧ s.expire = { s with tmrPend := false })
    ∨ (s.tmrPend = true ∧ s.shutdown = false ∧ s.sndState.awaiting = true ∧ hasRoom s.cfg s.txS = true
        ∧ s.expire = State.transmit s.pendingFrame { s with tmrPend := false }) := by
  cases he : s.expiryEnabled
  · exact .inl ⟨rfl, by simp [State.expire, he]⟩
  · have hp : s.tmrPend = true := by
      simp only [State.expiryEnabled, Bool.and_eq_true] at he
      exact he.1
    rcases onTimeout_cases { s with tmrPend := false } with ⟨h1, ho⟩ | ⟨h1, h2, ho⟩ | ⟨h1, h2, ho⟩
    · exact .inr (.inl ⟨hp, by simp_all [State.timeoutEmits], by simp [State.expire, he, ho]⟩)
    · exact .inr (.inl ⟨hp, by simp_all [State.timeoutEmits], by simp [State.expire, he, ho]⟩)
    · refine .inr (.inr ⟨hp, h1, h2, ?_, ?_⟩)
      · simp_all [State.expiryEnabled, State.timeoutEmits]
      · simp only [State.expire, he, ho, if_true, State.pendingFrame]

/-! ### The commands -/

/-- Everything `ENC` can do. -/
theorem execEnc_cases (seqCode ackCode : BitVec 2) (isAck : Bool) (data : Bytes) (s t : State)
    (h : execEnc seqCode ackCode isAck data s = .next t) :
    (t = s.refuse .badArg ∧ (seqCode = 0b10#2 ∨ ackCode = 0b10#2))
    ∨ (t = s.refuse .tooLong ∧ maxPayload s.cfg < data.length)
    ∨ t = s.respond (encResponse (seqCode.signExtend 32) (ackCode.signExtend 32) isAck data) := by
  simp only [execEnc, codeValue] at h
  by_cases h1 : seqCode = 0b10#2
  · simp only [h1, if_true, Host.Outcome.next.injEq] at h
    exact .inl ⟨h.symm, .inl h1⟩
  · by_cases h2 : ackCode = 0b10#2
    · simp only [h1, h2, if_true, if_false, Host.Outcome.next.injEq] at h
      exact .inl ⟨h.symm, .inr h2⟩
    · simp only [h1, h2, if_false, Host.Outcome.next.injEq] at h
      split at h
      · exact .inr (.inl ⟨h.symm, (payloadTooLong_iff _ _).mp ‹_›⟩)
      · exact .inr (.inr h.symm)

/-- Everything `SND_SEND` can do. -/
theorem execSndSend_cases (data : Bytes) (s t : State) (h : execSndSend data s = .next t) :
    (t = s.refuse .tooLong)
    ∨ (t = s.refuse .shutdown ∧ s.shutdown = true)
    ∨ (t = s.refuse .busy ∧ s.sndState.awaiting = true)
    ∨ (t = (s.sendNew data).respond (sentResponse (dataFrame s.sndState.bit data))
        ∧ data.length ≤ maxPayload s.cfg ∧ s.shutdown = false ∧ s.sndState.awaiting = false
        ∧ s.txS.length < s.cfg.outDepth)
    ∨ (t = s ∧ s.cfg.outDepth ≤ s.txS.length) := by
  simp only [execSndSend, Host.Outcome.next.injEq] at h
  split at h
  · exact .inl h.symm
  · split at h
    · exact .inr (.inl ⟨h.symm, ‹_›⟩)
    · split at h
      · exact .inr (.inr (.inl ⟨h.symm, ‹_›⟩))
      · split at h
        · refine .inr (.inr (.inr (.inl ⟨h.symm, ?_, ?_, ?_, ?_⟩)))
          · exact (payloadTooLong_eq_false_iff _ _).mp (Bool.eq_false_iff.mpr ‹_›)
          · exact Bool.eq_false_iff.mpr ‹_›
          · exact Bool.eq_false_iff.mpr ‹_›
          · exact (hasRoom_iff _ _).mp ‹_›
        · exact .inr (.inr (.inr (.inr ⟨h.symm, (hasRoom_eq_false_iff _ _).mp (Bool.eq_false_iff.mpr ‹_›)⟩)))

/-- Everything `SND_RX` can do. -/
theorem execSndRx_cases (data : Bytes) (s t : State) (h : execSndRx data s = .next t) :
    (t = s.refuse .shutdown ∧ s.shutdown = true)
    ∨ (∃ r : Response, t = s.takeDrawsS.respond r ∧ r.status = 0x00#8)
    ∨ (∃ r : Response, t = s.takeDrawsS.ackMatched.respond r ∧ r.status = 0x00#8 ∧ s.sndState.awaiting = true
        ∧ s.cleanS = true ∧ (decodeFrame (data.take s.cfg.maxFrame)).isCorrupt = false
        ∧ (decodeFrame (data.take s.cfg.maxFrame)).isAck = true
        ∧ (decodeFrame (data.take s.cfg.maxFrame)).ack = bitWord s.sndState.bit)
    ∨ (∃ r : Response, t = (s.takeDrawsS.transmit s.pendingFrame).respond r ∧ r.status = 0x00#8
        ∧ s.sndState.awaiting = true ∧ s.txS.length < s.cfg.outDepth)
    ∨ (t = s ∧ s.cfg.outDepth ≤ s.txS.length) := by
  simp only [execSndRx, Host.Outcome.next.injEq] at h
  split at h
  · exact .inl ⟨h.symm, ‹_›⟩
  · rcases inboundS_cases s data with ⟨_, hi⟩ | ⟨forced, _, _, hc, hi⟩
    · rw [hi] at h
      exact .inr (.inl ⟨_, h.symm, rfl⟩)
    · rw [hi] at h
      dsimp only at h
      split at h
      · exact .inr (.inl ⟨_, h.symm, rfl⟩)
      · split at h
        · exact .inr (.inl ⟨_, h.symm, rfl⟩)
        · split at h
          · refine .inr (.inr (.inl ⟨_, h.symm, rfl, ?_, ?_, ?_, ?_, ?_⟩))
            all_goals simp_all [markPacket, cutFrame]
          · split at h
            · refine .inr (.inr (.inr (.inl ⟨_, h.symm, rfl, ?_, ?_⟩)))
              · simp_all
              · exact (hasRoom_iff _ _).mp ‹_›
            · exact .inr (.inr (.inr (.inr
                ⟨h.symm, (hasRoom_eq_false_iff _ _).mp (Bool.eq_false_iff.mpr ‹_›)⟩)))

/-- Everything `SND_TIMEOUT` can do. -/
theorem execSndTimeout_cases (s t : State) (h : execSndTimeout s = .next t) :
    (t = s.refuse .shutdown ∧ s.shutdown = true)
    ∨ (t = s ∧ s.sndState.awaiting = true ∧ s.cfg.outDepth ≤ s.txS.length)
    ∨ (t = s.respond { status := 0x00#8, info := 0x03#8 } ∧ s.sndState.awaiting = false)
    ∨ (t = (s.transmit s.pendingFrame).respond { status := 0x00#8, info := 0x07#8 } ∧ s.shutdown = false
        ∧ s.sndState.awaiting = true ∧ s.txS.length < s.cfg.outDepth) := by
  simp only [execSndTimeout, Host.Outcome.next.injEq] at h
  rcases onTimeout_cases s with ⟨h1, ho⟩ | ⟨h1, h2, ho⟩ | ⟨h1, h2, ho⟩
  · simp only [h1, if_true] at h
    exact .inl ⟨h.symm, h1⟩
  · simp [h1, h2, ho, State.timeoutEmits] at h
    exact .inr (.inr (.inl ⟨h.symm, h2⟩))
  · cases hr : hasRoom s.cfg s.txS
    · simp [h1, h2, hr, State.timeoutEmits] at h
      exact .inr (.inl ⟨h.symm, h2, (hasRoom_eq_false_iff _ _).mp hr⟩)
    · simp [h1, h2, hr, ho, State.timeoutEmits] at h
      exact .inr (.inr (.inr ⟨h.symm, h1, h2, (hasRoom_iff _ _).mp hr⟩))

/-- Everything `RCV_RX` can do. -/
theorem execRcvRx_cases (data : Bytes) (s t : State) (h : execRcvRx data s = .next t) :
    (∃ r : Response, t = s.takeDrawsR.respond r ∧ r.status = 0x00#8)
    ∨ (∃ r : Response, t = (s.takeDrawsR.acceptPayload (decodeFrame (data.take s.cfg.maxFrame)).payload).respond r
        ∧ r.status = 0x00#8 ∧ r.v0 = bitWord s.expected
        ∧ s.deliver.length < s.cfg.outDepth ∧ s.txR.length < s.cfg.outDepth)
    ∨ (∃ r : Response, t = s.takeDrawsR.reAck.respond r ∧ r.status = 0x00#8 ∧ s.txR.length < s.cfg.outDepth)
    ∨ t = s := by
  simp only [execRcvRx, Host.Outcome.next.injEq] at h
  rcases inboundR_cases s data with ⟨_, hi⟩ | ⟨forced, _, _, hc, hi⟩
  · rw [hi] at h
    exact .inl ⟨_, h.symm, rfl⟩
  · rw [hi] at h
    dsimp only at h
    split at h
    · split at h
      · refine .inr (.inl ⟨_, h.symm, rfl, ?_, ?_, ?_⟩)
        · simp_all [packetResponse]
        · simp_all [hasRoom]
        · simp_all [hasRoom]
      · exact .inr (.inr (.inr h.symm))
    · split at h
      · exact .inr (.inr (.inl ⟨_, h.symm, rfl, (hasRoom_iff _ _).mp ‹_›⟩))
      · exact .inr (.inr (.inr h.symm))

/-! ### The CSRs -/

/-- Every CSR but `CSR_SND_STATE` reads the same whatever `SHUTDOWN` is (10_state.md R29). -/
theorem csrValue_shutdown (s : State) (b : Bool) (n : BitVec 8) (h : n ≠ 0x01#8) :
    csrValue { s with shutdown := b } n = csrValue s n := by
  unfold csrValue
  rw [if_neg h, if_neg h]
  rfl

/-! ### The step -/

/-- What a step that gives a next state has done, event by event. -/
theorem step_cases (s t : State) (h : step s = .next t) :
    (s.schedule = [] ∧ t = s)
    ∨ ∃ (e : Event) (rest : List Event), s.schedule = e :: rest ∧
        ((∃ c, e = .present c ∧ t = State.present c { s with schedule := rest })
        ∨ (e = .accept ∧ acceptCommand { s with schedule := rest } = .next t)
        ∨ (e = .tick ∧ t = State.tick { s with schedule := rest })
        ∨ (e = .expire ∧ t = State.expire { s with schedule := rest })
        ∨ (e = .takeTxS ∧ t = State.takeTxS { s with schedule := rest })
        ∨ (e = .takeTxR ∧ t = State.takeTxR { s with schedule := rest })
        ∨ (e = .takeDeliver ∧ t = State.takeDeliver { s with schedule := rest })
        ∨ (∃ cfg, e = .reset cfg ∧ configValid cfg = true
            ∧ t = { State.resetWith cfg with schedule := rest, rngS := s.rngS, rngR := s.rngR })) := by
  unfold step at h
  cases hs : s.schedule with
  | nil =>
    simp only [hs, Host.Outcome.next.injEq] at h
    exact .inl ⟨rfl, h.symm⟩
  | cons e rest =>
    refine .inr ⟨e, rest, rfl, ?_⟩
    cases e with
    | accept =>
      simp only [hs, takeEvent] at h
      exact .inr (.inl ⟨rfl, h⟩)
    | reset cfg =>
      simp only [hs, takeEvent, resetEvent] at h
      split at h
      · simp only [Host.Outcome.next.injEq] at h
        simp_all
      · exact absurd h (by simp)
    | _ =>
      simp only [hs, takeEvent, Host.Outcome.next.injEq] at h
      simp_all

/-- What taking the command on the port has done. -/
theorem acceptCommand_cases (s t : State) (h : acceptCommand s = .next t) :
    (s.port = none ∧ t = s)
    ∨ (∃ (c : Command) (r : Reject), s.port = some c ∧ decode c = .reject r ∧ t = s.refuse (rejectStatus r))
    ∨ (∃ (c : Command) (i : Instr), s.port = some c ∧ decode c = .instr i ∧ exec i s = .next t) := by
  unfold acceptCommand fetch at h
  cases hp : s.port with
  | none =>
    simp only [hp, Option.map_none, Host.Outcome.next.injEq] at h
    exact .inl ⟨rfl, h.symm⟩
  | some c =>
    cases hd : decode c with
    | instr i =>
      simp only [hp, Option.map_some, hd] at h
      exact .inr (.inr ⟨c, i, rfl, hd, h⟩)
    | reject r =>
      simp only [hp, Option.map_some, hd, Host.Outcome.next.injEq] at h
      exact .inr (.inl ⟨c, r, rfl, hd, h.symm⟩)

end Sys2Proof.Machine
end

