-- ==== Sys2Proof/Laws/PerInstr.lean ====
section
/-! SUPPORT. Statements about every instruction, one lemma per constructor: the command word of an encoded
command lies in its own row of spec/opcode_table.json. -/

namespace Sys2Proof.Laws.TableRow

/-- The `mask` of a command's row in spec/opcode_table.json. -/
def mask : Instr → BitVec 40
  | .enc _ _ _ _ => 0xFFFFFFFFE0#40
  | .dec _ => 0xFFFFFFFFFF#40
  | .dig _ => 0xFFFFFFFFFF#40
  | .vfy _ _ => 0xFF00000000#40
  | .sndSend _ => 0xFFFFFFFFFF#40
  | .sndRx _ => 0xFFFFFFFFFF#40
  | .sndTimeout => 0xFFFFFFFFFF#40
  | .sndReady => 0xFFFFFFFFFF#40
  | .sndShutdown => 0xFFFFFFFFFF#40
  | .rcvRx _ => 0xFFFFFFFFFF#40
  | .csrRd _ => 0xFFFFFFFF00#40

/-- The `match` of a command's row in spec/opcode_table.json. -/
def fixedBits : Instr → BitVec 40
  | .enc _ _ _ _ => 0x0100000000#40
  | .dec _ => 0x0200000000#40
  | .dig _ => 0x0300000000#40
  | .vfy _ _ => 0x0400000000#40
  | .sndSend _ => 0x1000000000#40
  | .sndRx _ => 0x1100000000#40
  | .sndTimeout => 0x1200000000#40
  | .sndReady => 0x1300000000#40
  | .sndShutdown => 0x1400000000#40
  | .rcvRx _ => 0x2000000000#40
  | .csrRd _ => 0x3000000000#40

/-- The word of an encoded command has the fixed bits of its row (30_encoding.md R80, R89). -/
def Statement (i : Instr) : Prop := commandWord (encode i) &&& mask i = fixedBits i

theorem enc (seqCode ackCode : BitVec 2) (isAck : Bool) (data : Bytes) :
    Statement (.enc seqCode ackCode isAck data) := by
  have h : ∀ (s a : BitVec 2) (k : Bool),
      ((0x01#8 ++ encArg s a k : BitVec 40)) &&& 0xFFFFFFFFE0#40 = 0x0100000000#40 := by decide
  exact h seqCode ackCode isAck

theorem dec (data : Bytes) : Statement (.dec data) := by
  show (0x02#8 ++ 0#32 : BitVec 40) &&& 0xFFFFFFFFFF#40 = 0x0200000000#40
  decide

theorem dig (data : Bytes) : Statement (.dig data) := by
  show (0x03#8 ++ 0#32 : BitVec 40) &&& 0xFFFFFFFFFF#40 = 0x0300000000#40
  decide

theorem vfy (digest : Word) (data : Bytes) : Statement (.vfy digest data) := by
  show (0x04#8 ++ digest : BitVec 40) &&& 0xFF00000000#40 = 0x0400000000#40
  have hm : (0xFF00000000#40 : BitVec 40) = 0xFF#8 ++ 0#32 := by decide
  rw [hm, BitVec.and_append, BitVec.and_zero]
  decide

theorem sndSend (data : Bytes) : Statement (.sndSend data) := by
  show (0x10#8 ++ 0#32 : BitVec 40) &&& 0xFFFFFFFFFF#40 = 0x1000000000#40
  decide

theorem sndRx (data : Bytes) : Statement (.sndRx data) := by
  show (0x11#8 ++ 0#32 : BitVec 40) &&& 0xFFFFFFFFFF#40 = 0x1100000000#40
  decide

theorem sndTimeout : Statement .sndTimeout := by
  show (0x12#8 ++ 0#32 : BitVec 40) &&& 0xFFFFFFFFFF#40 = 0x1200000000#40
  decide

theorem sndReady : Statement .sndReady := by
  show (0x13#8 ++ 0#32 : BitVec 40) &&& 0xFFFFFFFFFF#40 = 0x1300000000#40
  decide

theorem sndShutdown : Statement .sndShutdown := by
  show (0x14#8 ++ 0#32 : BitVec 40) &&& 0xFFFFFFFFFF#40 = 0x1400000000#40
  decide

theorem rcvRx (data : Bytes) : Statement (.rcvRx data) := by
  show (0x20#8 ++ 0#32 : BitVec 40) &&& 0xFFFFFFFFFF#40 = 0x2000000000#40
  decide

theorem csrRd (csr : BitVec 8) : Statement (.csrRd csr) := by
  show (0x30#8 ++ csr.setWidth 32 : BitVec 40) &&& 0xFFFFFFFF00#40 = 0x3000000000#40
  have h : ∀ c : BitVec 8, (0x30#8 ++ c.setWidth 32 : BitVec 40) &&& 0xFFFFFFFF00#40 = 0x3000000000#40 := by
    decide +kernel
  exact h csr

end Sys2Proof.Laws.TableRow
end

