-- ==== Sys2Proof/Tests/Slice0.lean ====
section
/-! SUPPORT. Tests of the model on the vectors of 95_test_vectors.md and on words written out from the encoding of
30_encoding.md, the smoke tests of the well-formedness checks, and for each statement of
Certificates/Slice0/Obligations.lean a concrete case that meets its hypotheses (the theorems `witness_…`). -/

namespace Sys2Proof.Tests

open Sys2Proof Sys2Proof.Machine

-- One proof at a time: every evaluation by the kernel holds a thread of its own.
set_option Elab.async false

/-! ### Helpers -/

/-- A byte string written as ASCII text (00_scope.md R13). -/
def asc (text : String) : Bytes := text.toList.map (fun c => BitVec.ofNat 8 c.toNat)

/-- The next state of an outcome, where it has one. -/
def nextOf (o : Host.Outcome State Fault Refusal) : Option State :=
  match o with
  | .next t => some t
  | .fault _ => none
  | .refused _ => none

/-- What a check says of the next state of an outcome; false without one. -/
def nextIs (o : Host.Outcome State Fault Refusal) (check : State → Bool) : Bool :=
  match o with
  | .next t => check t
  | .fault _ => false
  | .refused _ => false

theorem exists_of_nextIs (o : Host.Outcome State Fault Refusal) (check : State → Bool) (h : nextIs o check = true) :
    ∃ t, o = .next t ∧ check t = true := by
  cases o with
  | next t => exact ⟨t, rfl, h⟩
  | fault r => exact absurd h (by simp [nextIs])
  | refused r => exact absurd h (by simp [nextIs])

/-- The response that a command gives. -/
def respOf (i : Instr) (s : State) : Option Response := (nextOf (exec i s)).bind (fun t => t.resp)

/-- The parameters of 95_test_vectors.md. -/
def testCfg : Config :=
  { initTimeout := 10, alphaQ8 := 32, pLossQ16 := 16384, pCorruptQ16 := 16384, maxFrame := 1024, outDepth := 4 }

/-- Draws known ahead. -/
def draws (xs : List (BitVec 16)) : DrawInput := { ahead := xs, taken := 0 }

/-- Right after reset with the test parameters, and the default draws of 95_test_vectors.md for two frames each. -/
def start : State :=
  { State.resetWith testCfg with
    rngS := draws (List.replicate 4 0xFFFF#16)
    rngR := draws (List.replicate 4 0xFFFF#16) }

/-- `AW0` with `"hello"` pending, as 95_test_vectors.md L2.7 row 1 leaves it. -/
def aw0 : State :=
  match nextOf (exec (.sndSend (asc "hello")) start) with
  | some t => { t with resp := none }
  | none => start

/-- `AW0` with a latched expiry at `NOW = 10`. -/
def aw0Latched : State := { State.ticks 10 aw0 with rngS := draws [0xFFFF#16, 0xFFFF#16] }

/-- `RTS1`, after the ACK for 0. -/
def rts1 : State :=
  match nextOf (exec (.sndRx (asc "-1|0|1|0|")) aw0) with
  | some t => { t with resp := none }
  | none => start

/-- The data frame of 95_test_vectors.md L1.1. -/
def helloFrame : Bytes := asc "0|-1|0|907060870|hello"

/-- A state with a command on the port that is taken next. -/
def offered (c : Command) (s : State) : State := { s with port := some c, schedule := [.accept] }

/-! ### Well-formedness: each check refuses an ill-formed term (30_encoding.md R80, R83) -/

theorem test_wf_refuses_seq_code_2 : (Instr.enc 0b10#2 0b00#2 false []).wellFormed = false := by decide
theorem test_wf_refuses_ack_code_2 : (Instr.enc 0b00#2 0b10#2 false []).wellFormed = false := by decide
theorem test_wf_accepts_other_codes : (Instr.enc 0b11#2 0b01#2 true []).wellFormed = true := by decide
theorem test_wf_refuses_65536_bytes (data : Bytes) (h : data.length = 65536) :
    (Instr.enc 0b00#2 0b00#2 false data).wellFormed = false
      ∧ (Instr.dec data).wellFormed = false ∧ (Instr.dig data).wellFormed = false
      ∧ (Instr.vfy 0#32 data).wellFormed = false ∧ (Instr.sndSend data).wellFormed = false
      ∧ (Instr.sndRx data).wellFormed = false ∧ (Instr.rcvRx data).wellFormed = false
      ∧ ({ opc := 0#8, arg := 0#32, data := data } : Command).wellFormed = false := by
  simp [Instr.wellFormed, Command.wellFormed, dataOk, maxLen, h]
theorem test_wf_accepts_65535_bytes (data : Bytes) (h : data.length = 65535) :
    (Instr.dec data).wellFormed = true ∧ (Instr.enc 0b11#2 0b01#2 true data).wellFormed = true := by
  simp [Instr.wellFormed, dataOk, codeOk, maxLen, h]

/-! ### Decoding words written out from 30_encoding.md R80, R82, R84, R89 (OPC in bits 39:32, ARG in 31:0) -/

theorem test_decode_enc : decodeTableWord 40 0x0100000013 = some (.enc 0b11#2 0b00#2 true []) := by decide
theorem test_decode_enc_ack : decodeTableWord 40 0x010000000D = some (.enc 0b01#2 0b11#2 false []) := by decide
theorem test_decode_dec : decodeTableWord 40 0x0200000000 = some (.dec []) := by decide
theorem test_decode_dig : decodeTableWord 40 0x0300000000 = some (.dig []) := by decide
theorem test_decode_vfy : decodeTableWord 40 0x043610A686 = some (.vfy 907060870#32 []) := by decide
theorem test_decode_snd_send : decodeTableWord 40 0x1000000000 = some (.sndSend []) := by decide
theorem test_decode_snd_rx : decodeTableWord 40 0x1100000000 = some (.sndRx []) := by decide
theorem test_decode_snd_timeout : decodeTableWord 40 0x1200000000 = some .sndTimeout := by decide
theorem test_decode_snd_ready : decodeTableWord 40 0x1300000000 = some .sndReady := by decide
theorem test_decode_snd_shutdown : decodeTableWord 40 0x1400000000 = some .sndShutdown := by decide
theorem test_decode_rcv_rx : decodeTableWord 40 0x2000000000 = some (.rcvRx []) := by decide
theorem test_decode_csr_rd : decodeTableWord 40 0x3000000015 = some (.csrRd 0x15#8) := by decide

theorem test_decode_rejects :
    decode { opc := 0x00#8, arg := 0#32, data := [] } = .reject .unassignedOpcode
      ∧ decode { opc := 0x05#8, arg := 7#32, data := [1#8] } = .reject .unassignedOpcode
      ∧ decode { opc := 0x01#8, arg := 0x20#32, data := [] } = .reject .reservedArg
      ∧ decode { opc := 0x10#8, arg := 1#32, data := [1#8] } = .reject .reservedArg
      ∧ decode { opc := 0x30#8, arg := 0x100#32, data := [] } = .reject .reservedArg
      ∧ decode { opc := 0x13#8, arg := 0#32, data := [0#8] } = .reject .strayData := by decide

/-! ### The Codec (95_test_vectors.md L2.1 to L2.4) -/

theorem test_enc_frame :
    respOf (.enc 0b01#2 0b00#2 true (asc "a|b")) start
      = some { status := 0#8, v0 := 20#32, v2 := 2523025035#32, data := asc "1|0|1|2523025035|a|b" } := by
  decide +kernel
theorem test_enc_minus_one :
    respOf (.enc 0b11#2 0b11#2 true []) start
      = some { status := 0#8, v0 := 10#32, data := asc "-1|-1|1|0|" } := by decide +kernel
theorem test_dec_reads_pipe_in_payload :
    respOf (.dec (asc "1|-1|0|267394968|x|y")) start
      = some { status := 0#8, v0 := 1#32, v1 := 0xFFFFFFFF#32, v2 := 267394968#32, data := asc "x|y" } := by
  decide +kernel
theorem test_dec_above_int32_is_malformed :
    respOf (.dec (asc "2147483648|0|0|0|")) start
      = some { status := 0#8, flags := 0x06#8, v0 := 0xFFFFFFFF#32, v1 := 0xFFFFFFFF#32 } := by decide +kernel
theorem test_parse_corners :
    (decodeFrame (asc "-2147483648|0|0|0|")).seq = 0x80000000#32
      ∧ isMalformed (asc "-0|0|0|00|") = false ∧ isMalformed (asc "0000000001|0|0|0|") = false
      ∧ isMalformed (asc "00000000001|0|0|0|") = true ∧ isMalformed (asc "+1|0|0|0|") = true
      ∧ isMalformed (asc "-|0|0|0|") = true ∧ isMalformed (asc "0|0|00|0|") = true
      ∧ isMalformed (asc "0|0|0|4294967296|") = true ∧ isMalformed (asc "0|0|0|0") = true := by decide +kernel
theorem test_dig_check_value :
    respOf (.dig (asc "123456789")) start = some { status := 0#8, v2 := 0xCBF43926#32 } := by decide +kernel
theorem test_vfy_equal :
    respOf (.vfy 907060870#32 (asc "hello")) start = some { status := 0#8, v0 := 1#32, v2 := 907060870#32 } := by
  decide +kernel
theorem test_vfy_different :
    respOf (.vfy 907060870#32 (asc "hellp")) start = some { status := 0#8, v0 := 0#32, v2 := 3138956147#32 } := by
  decide +kernel

/-! ### Timer and RTT Estimator (95_test_vectors.md L2.6) -/

theorem test_ewma :
    ewma 32 10#32 5#32 = 9#32 ∧ ewma 32 1#32 0#32 = 1#32 ∧ ewma 255 10#32 1000#32 = 996#32
      ∧ ewma 255 4294967295#32 4294967295#32 = 4294967295#32 ∧ ewma 255 4294967295#32 0#32 = 16777215#32 := by
  decide +kernel
theorem test_sample_wraps : State.rttSample { start with now := 3#32, sendTs := 0xFFFFFFFE#32 } = 5#32 := by
  decide +kernel
theorem test_countdown :
    (State.ticks 9 aw0).tmrCount = 1#32 ∧ (State.ticks 9 aw0).tmrArmed = true
      ∧ (State.ticks 10 aw0).tmrArmed = false ∧ (State.ticks 10 aw0).tmrPend = true
      ∧ (State.ticks 11 aw0).tmrPend = true ∧ (State.ticks 11 aw0).now = 11#32 := by decide +kernel
theorem test_expire_retransmits :
    aw0Latched.expire.txS = [helloFrame, helloFrame] ∧ aw0Latched.expire.sendTs = 10#32
      ∧ aw0Latched.expire.tmrPend = false ∧ aw0Latched.expire.tmrCount = 10#32 := by decide +kernel

/-! ### The Sender (95_test_vectors.md L2.7) -/

theorem test_snd_send_first :
    nextIs (exec (.sndSend (asc "hello")) start) (fun t =>
      t.resp == some { status := 0#8, info := 0x06#8, v0 := 22#32 } && t.txS == [helloFrame]
        && t.sndState == .aw0 && t.tmrCount == 10#32 && t.pendLen == 22#16 && t.bytesSent == 5#64) = true := by
  decide +kernel
theorem test_snd_send_second_bit :
    nextIs (exec (.sndSend (asc "world")) rts1) (fun t =>
      t.txS == [helloFrame, asc "1|-1|0|980881731|world"] && t.sndState == .aw1 && t.bytesSent == 10#64) = true := by
  decide +kernel
theorem test_snd_rx_match :
    nextIs (exec (.sndRx (asc "-1|0|1|0|")) (State.ticks 4 aw0)) (fun t =>
      t.resp == some { status := 0#8, info := 0x04#8, flags := 0x01#8, v0 := 0xFFFFFFFF#32 }
        && t.sndState == .rts1 && t.lastRtt == 4#32 && t.estTimeout == 9#32 && t.tmrArmed == false
        && t.pendValid == false) = true := by decide +kernel
/-- The vector of 95_test_vectors.md with `MAX_FRAME = 64` in place of 1024: cut to 64 bytes, the 55-byte payload
fails digest 0. -/
theorem test_snd_rx_truncated :
    respOf (.sndRx (asc "-1|0|1|0|" ++ List.replicate 56 0x61#8)) { aw0 with cfg := { testCfg with maxFrame := 64 } }
      = some { status := 0#8, info := 0x02#8, flags := 0x13#8, v0 := 0xFFFFFFFF#32 } := by decide +kernel
theorem test_snd_timeout_in_aw0 :
    nextIs (exec .sndTimeout (State.ticks 3 aw0)) (fun t =>
      t.resp == some { status := 0#8, info := 0x07#8 } && t.txS == [helloFrame, helloFrame]
        && t.sendTs == 3#32 && t.tmrCount == 10#32) = true := by decide +kernel
theorem test_snd_timeout_in_rts0 : respOf .sndTimeout start = some { status := 0#8, info := 0x03#8 } := by
  decide +kernel
theorem test_snd_ready :
    respOf .sndReady start = some { status := 0#8, v0 := 1#32 }
      ∧ respOf .sndReady aw0 = some { status := 0#8, v0 := 0#32 } := by decide +kernel
theorem test_snd_shutdown :
    nextIs (exec .sndShutdown aw0) (fun t =>
      t.resp == some { status := 0#8 } && t.shutdown
        && respOf (.sndRx (asc "-1|0|1|0|")) t == some { status := 0x04#8 }) = true := by decide +kernel

/-! ### The Receiver and the CSRs (95_test_vectors.md L2.8, L2.9) -/

theorem test_rcv_rx_accepts :
    nextIs (exec (.rcvRx helloFrame) start) (fun t =>
      t.resp == some { status := 0#8, info := 0x08#8, v1 := 0xFFFFFFFF#32, v2 := 907060870#32 }
        && t.deliver == [asc "hello"] && t.txR == [asc "-1|0|1|0|"] && t.expected) = true := by decide +kernel
theorem test_rcv_rx_forced :
    nextIs (exec (.rcvRx helloFrame) { start with rngR := draws [0xFFFF#16, 0x0000#16] }) (fun t =>
      t.resp == some { status := 0#8, info := 0x09#8, flags := 0x0A#8, v1 := 0xFFFFFFFF#32, v2 := 907060870#32 }
        && t.deliver == [] && t.txR == [asc "-1|1|1|0|"] && !t.expected) = true := by decide +kernel
theorem test_csr_rd :
    respOf (.csrRd 0x01#8) start = some { status := 0#8, v0 := 0x00000010#32 }
      ∧ respOf (.csrRd 0x01#8) aw0 = some { status := 0#8, v0 := 0x0000000A#32 } := by decide +kernel
theorem test_csr_rd_unassigned : respOf (.csrRd 0x0C#8) start = some { status := 0x06#8 } := by decide +kernel

/-! ### Witnesses: encoding and the step -/

theorem witness_well_formed : (Instr.enc 0b11#2 0b01#2 true [0x7C#8]).wellFormed = true := by decide
theorem witness_decodes :
    decode { opc := 0x01#8, arg := 0x1D#32, data := [0x7C#8] } = .instr (.enc 0b01#2 0b11#2 true [0x7C#8]) := by
  decide
theorem witness_unassigned_opcode :
    (offered { opc := 0x05#8, arg := 1#32, data := [] } start).port = some { opc := 0x05#8, arg := 1#32, data := [] }
      ∧ 0x05#8 ∉ [0x01#8, 0x02#8, 0x03#8, 0x04#8, 0x10#8, 0x11#8, 0x12#8, 0x13#8, 0x14#8, 0x20#8, 0x30#8] := by
  decide +kernel
/-- Each clause at the smallest reserved bit or length. -/
theorem witness_bad_argument :
    (offered { opc := 0x01#8, arg := 0x20#32, data := [] } start).port = some { opc := 0x01#8, arg := 0x20#32, data := [] }
      ∧ (0x20#32).toNat / 32 ≠ 0 ∧ (0x02#32).extractLsb' 0 2 = 0b10#2 ∧ (0x08#32).extractLsb' 2 2 = 0b10#2
      ∧ (0x20#8 ∈ [0x02#8, 0x03#8, 0x10#8, 0x11#8, 0x20#8] ∧ 1#32 ≠ 0#32)
      ∧ (0x14#8 ∈ [0x12#8, 0x13#8, 0x14#8] ∧ [0#8] ≠ ([] : Bytes)) ∧ (0x100#32).toNat / 256 ≠ 0 := by decide +kernel
theorem witness_step_runs :
    (offered (encode (.csrRd 0x01#8)) start).schedule = .accept :: []
      ∧ (offered (encode (.csrRd 0x01#8)) start).port = some (encode (.csrRd 0x01#8))
      ∧ decode (encode (.csrRd 0x01#8)) = .instr (.csrRd 0x01#8) := by decide +kernel
theorem witness_presented_word : decodeTableWord 40 0x3000000015 = some (.csrRd 0x15#8) := by decide
theorem witness_each_event :
    start.schedule = [] ∧ start.port = none
      ∧ ∀ e ∈ [Event.tick, .expire, .takeTxS, .takeTxR, .takeDeliver, .accept,
          .present { opc := 0x13#8, arg := 0#32, data := [] }],
          ({ start with schedule := [e] } : State).schedule = e :: [] := by decide +kernel
/-- A present on an occupied port, and a waiting tuple that does not decode. -/
theorem witness_occupied_port :
    ({ start with port := some (encode .sndReady), schedule := [.present (encode .sndShutdown)] } : State).schedule
        = .present (encode .sndShutdown) :: []
      ∧ ({ start with port := some (encode .sndReady), schedule := [.present (encode .sndShutdown)] } : State).port
        = some (encode .sndReady)
      ∧ (offered { opc := 0x05#8, arg := 0#32, data := [] } start).schedule = .accept :: []
      ∧ decode { opc := 0x05#8, arg := 0#32, data := [] } = .reject .unassignedOpcode := by decide +kernel

/-! ### Witnesses: Codec -/

/-- The longest payload, 1005 bytes, and the shortest one that is too long; the same for a frame. -/
theorem witness_length_limits :
    maxPayload start.cfg = 1005 ∧ (List.replicate 1005 0x61#8).length ≤ maxPayload start.cfg
      ∧ start.cfg.maxFrame - 19 < (List.replicate 1006 0x61#8).length
      ∧ (List.replicate 1024 0x61#8).length ≤ start.cfg.maxFrame
      ∧ start.cfg.maxFrame < (List.replicate 1025 0x61#8).length := by decide +kernel
theorem witness_codes : 0b11#2 ≠ 0b10#2 ∧ 0b00#2 ≠ 0b10#2 ∧ 0b01#2 ≠ 0b10#2 := by decide
theorem witness_one_changed_byte :
    (asc "hello").length = (asc "jello").length ∧ 0 < (asc "hello").length
      ∧ (asc "hello")[0]? ≠ (asc "jello")[0]? ∧ (asc "hello").tail = (asc "jello").tail := by decide +kernel
theorem witness_other_bytes_agree (j : Nat) (h : j ≠ 0) : (asc "hello")[j]? = (asc "jello")[j]? := by
  cases j with
  | zero => exact absurd rfl h
  | succ k =>
    rw [← List.getElem?_tail, ← List.getElem?_tail, witness_one_changed_byte.2.2.2]
theorem witness_payload_mutation :
    asc "0|-1|0|907060870|hello" = encodeFrame 0#32 minusOne false (asc "hello")
      ∧ (asc "0|-1|0|907060870|hellp").length = helloFrame.length
      ∧ helloFrame.length - (asc "hello").length ≤ 21 ∧ 21 < helloFrame.length
      ∧ (asc "0|-1|0|907060870|hellp")[21]? ≠ helloFrame[21]?
      ∧ (asc "0|-1|0|907060870|hellp").take 21 = helloFrame.take 21 := by decide +kernel
theorem witness_mutation_elsewhere (j : Nat) (h : j ≠ 21) :
    (asc "0|-1|0|907060870|hellp")[j]? = helloFrame[j]? := by
  rcases Nat.lt_or_ge j 21 with hj | hj
  · rw [← List.getElem?_take_of_lt hj, ← List.getElem?_take_of_lt (l := helloFrame) hj,
      witness_payload_mutation.2.2.2.2.2]
  · have h1 : (asc "0|-1|0|907060870|hellp").length = 22 := by decide +kernel
    have h2 : helloFrame.length = 22 := by decide +kernel
    rw [List.getElem?_eq_none (by omega), List.getElem?_eq_none (by omega)]
theorem witness_malformed : isMalformed [] = true ∧ isMalformed (asc "||||") = true := by decide
theorem witness_parses : parseFrame helloFrame
    = some { seq := 0#32, ack := 0xFFFFFFFF#32, isAck := false, payload := asc "hello", digest := 907060870#32,
             isCorrupt := false } := by decide +kernel
theorem witness_frame_size :
    minusOne ∈ [0#32, 1#32, 0xFFFFFFFF#32] ∧ 19 ≤ testCfg.maxFrame
      ∧ (List.replicate 1005 0x61#8).length ≤ maxPayload testCfg := by decide +kernel

/-! ### Witnesses: Fault Injector -/

/-- The thresholds of 95_test_vectors.md L2.5, from both sides. -/
theorem witness_injector :
    (0x3FFF#16).toNat < testCfg.pLossQ16 ∧ testCfg.pLossQ16 ≤ (0x4000#16).toNat
      ∧ (0x3FFF#16).toNat < testCfg.pCorruptQ16 ∧ testCfg.pCorruptQ16 ≤ (0x4000#16).toNat
      ∧ inject testCfg 0x4000#16 0x3FFF#16 = .pass true ∧ inject testCfg 0x4000#16 0x4000#16 = .pass false
      ∧ ({ testCfg with pLossQ16 := 65536 } : Config).pLossQ16 = 65536 := by decide +kernel
theorem witness_dropped :
    start.shutdown = false
      ∧ ({ start with rngS := draws [0x3FFF#16, 0xFFFF#16] } : State).dropsS = true
      ∧ ({ start with rngR := draws [0x3FFF#16, 0xFFFF#16] } : State).dropsR = true := by decide +kernel

/-! ### Witnesses: Timer -/

theorem witness_tick :
    start.tmrArmed = false
      ∧ (State.ticks 8 aw0).tmrArmed = true ∧ (State.ticks 8 aw0).tmrCount.toNat = 2
      ∧ (State.ticks 9 aw0).tmrArmed = true ∧ (State.ticks 9 aw0).tmrCount.toNat = 1 := by decide +kernel
theorem witness_countdown :
    aw0.tmrArmed = true ∧ aw0.tmrPend = false ∧ aw0.tmrCount ≠ 0#32 ∧ 9 < aw0.tmrCount.toNat
      ∧ aw0.tmrCount.toNat ≤ 10 := by decide +kernel
theorem witness_ewma : 256 ≤ 256 ∧ testCfg.alphaQ8 ≤ 256 := by decide
theorem witness_expiry :
    aw0Latched.tmrPend = true ∧ aw0Latched.shutdown = false ∧ aw0Latched.sndState.awaiting = true
      ∧ aw0Latched.txS.length < aw0Latched.cfg.outDepth := by decide +kernel
theorem witness_expiry_without_retransmission :
    aw0.tmrPend = false
      ∧ ({ aw0Latched with txS := List.replicate 4 [] } : State).cfg.outDepth
          ≤ ({ aw0Latched with txS := List.replicate 4 [] } : State).txS.length
      ∧ ({ aw0Latched with shutdown := true } : State).tmrPend = true := by decide +kernel

/-! ### Witnesses: Sender -/

theorem witness_send :
    configValid start.cfg = true ∧ (List.replicate 1005 0x61#8).length ≤ maxPayload start.cfg
      ∧ start.shutdown = false ∧ start.sndState.awaiting = false ∧ start.txS.length < start.cfg.outDepth
      ∧ ({ start with txS := List.replicate 3 [] } : State).txS.length < start.cfg.outDepth := by decide +kernel
theorem witness_busy :
    (asc "A").length ≤ maxPayload aw0.cfg ∧ aw0.shutdown = false ∧ aw0.sndState.awaiting = true := by decide +kernel
theorem witness_ack_match :
    aw0.shutdown = false ∧ aw0.sndState.awaiting = true ∧ aw0.cleanS = true
      ∧ (decodeFrame ((asc "-1|0|1|0|").take aw0.cfg.maxFrame)).isCorrupt = false
      ∧ (decodeFrame ((asc "-1|0|1|0|").take aw0.cfg.maxFrame)).isAck = true
      ∧ (decodeFrame ((asc "-1|0|1|0|").take aw0.cfg.maxFrame)).ack
          = (if aw0.sndState.bit then 1#32 else 0#32) := by decide +kernel
theorem witness_ack_mismatch :
    (decodeFrame ((asc "-1|1|1|0|").take aw0.cfg.maxFrame)).isCorrupt = false
      ∧ (decodeFrame ((asc "-1|1|1|0|").take aw0.cfg.maxFrame)).isAck = true
      ∧ (decodeFrame ((asc "-1|1|1|0|").take aw0.cfg.maxFrame)).ack ≠ (if aw0.sndState.bit then 1#32 else 0#32)
      ∧ aw0.txS.length < aw0.cfg.outDepth := by decide +kernel
theorem witness_discard :
    aw0.dropsS = false ∧ (decodeFrame ((asc "garbage").take aw0.cfg.maxFrame)).isCorrupt = true
      ∧ ({ aw0 with rngS := draws [0x4000#16, 0x0000#16] } : State).dropsS = false
      ∧ ({ aw0 with rngS := draws [0x4000#16, 0x0000#16] } : State).forcesS = true
      ∧ (decodeFrame (helloFrame.take aw0.cfg.maxFrame)).isAck = false := by decide +kernel
theorem witness_ignored :
    rts1.shutdown = false ∧ rts1.sndState.awaiting = false ∧ rts1.cleanS = true
      ∧ (decodeFrame ((asc "-1|0|1|0|").take rts1.cfg.maxFrame)).isCorrupt = false
      ∧ (decodeFrame ((asc "-1|0|1|0|").take rts1.cfg.maxFrame)).isAck = true := by decide +kernel
theorem witness_shut_down :
    ({ aw0 with shutdown := true } : State).shutdown = true ∧ (asc "x").length ≤ maxPayload aw0.cfg := by decide +kernel
theorem witness_after_shutdown : ∃ t, exec .sndReady aw0 = .next t ∧ (t.resp == some { status := 0#8 }) = true :=
  exists_of_nextIs _ (fun t => t.resp == some { status := 0#8 }) (by decide +kernel)
theorem witness_csr_after_shutdown :
    0x00#8 ≠ 0x01#8 ∧ ∃ t, exec (.csrRd 0x00#8) aw0 = .next t ∧ (t.port == none) = true :=
  ⟨by decide, exists_of_nextIs _ (fun t => t.port == none) (by decide +kernel)⟩
theorem witness_held :
    ({ start with txS := List.replicate 4 [] } : State).cfg.outDepth
        ≤ ({ start with txS := List.replicate 4 [] } : State).txS.length
      ∧ ({ aw0 with txS := List.replicate 4 [] } : State).cleanS = true
      ∧ start.dropsR = false ∧ start.cleanR = true
      ∧ start.cfg.outDepth ≤ ({ start with txR := List.replicate 4 [] } : State).txR.length
      ∧ start.cfg.outDepth ≤ ({ start with deliver := List.replicate 4 [] } : State).deliver.length := by decide +kernel

/-! ### Witnesses: Receiver -/

theorem witness_accepts :
    start.cleanR = true ∧ (decodeFrame (helloFrame.take start.cfg.maxFrame)).isCorrupt = false
      ∧ (decodeFrame (helloFrame.take start.cfg.maxFrame)).seq = (if start.expected then 1#32 else 0#32)
      ∧ start.deliver.length < start.cfg.outDepth ∧ start.txR.length < start.cfg.outDepth := by decide +kernel
theorem witness_re_acks :
    start.dropsR = false ∧ (decodeFrame ([].take start.cfg.maxFrame)).isCorrupt = true
      ∧ ({ start with rngR := draws [0xFFFF#16, 0x0000#16] } : State).forcesR = true
      ∧ ({ start with rngR := draws [0xFFFF#16, 0x0000#16] } : State).dropsR = false
      ∧ (decodeFrame ((asc "2|-1|0|0|").take start.cfg.maxFrame)).seq
          ≠ (if start.expected then 1#32 else 0#32) := by decide +kernel

/-- Two frames are presented and taken. -/
def twoFrames : State :=
  { start with
    schedule :=
      [.present (encode (.rcvRx helloFrame)), .accept,
       .present (encode (.rcvRx (asc "1|-1|0|980881731|world"))), .accept] }

theorem witness_no_reset (cfg : Config) : Event.reset cfg ∉ twoFrames.schedule := by simp [twoFrames]
theorem witness_two_accepted : acceptedSeqs 4 twoFrames = [0#32, 1#32] := by decide +kernel

/-! ### Witnesses: System, reset and the whole machine -/

/-- The first and the last number of each unassigned range, and the last assigned one. -/
theorem witness_csr_numbers :
    (∀ n ∈ [0x0C#8, 0x0F#8], 0x0C ≤ n.toNat ∧ n.toNat ≤ 0x0F) ∧ (∀ n ∈ [0x16#8, 0xFF#8], 0x16 ≤ n.toNat)
      ∧ ((0x15#8, BitVec.ofNat 32 start.cfg.outDepth) : BitVec 8 × Word) ∈
          [(0x15#8, BitVec.ofNat 32 start.cfg.outDepth)] := by decide +kernel
theorem witness_refused_command :
    start.resp = none ∧ ∃ t, exec (.csrRd 0x0C#8) start = .next t ∧ (t.resp == some { status := 0x06#8 }) = true :=
  ⟨rfl, exists_of_nextIs _ (fun t => t.resp == some { status := 0x06#8 }) (by decide +kernel)⟩
theorem witness_reset_event :
    ({ start with schedule := [.reset testCfg] } : State).schedule = .reset testCfg :: [] ∧ configValid testCfg = true
      ∧ configValid { testCfg with maxFrame := 63 } = false ∧ configValid { testCfg with maxFrame := 64 } = true := by
  decide +kernel

/-- `AW0` with a tick to come. -/
def aw0Tick : State := { aw0 with schedule := [.tick] }

theorem witness_invariant : aw0Tick.Inv where
  cfgValid := by decide +kernel
  timerExclusive := by decide +kernel
  armedCounts := by decide +kernel
  timerLive := by decide +kernel
  pendValidAwaiting := by decide +kernel
  pendingIsDataFrame := fun _ => ⟨asc "hello", by decide +kernel⟩
  noPendingLength := by decide +kernel
  pendBufSize := by decide +kernel
  estPositive := by decide +kernel
  txSDepth := by decide +kernel
  txRDepth := by decide +kernel
  deliverDepth := by decide +kernel
  txSFrames := fun f hf => ⟨false, asc "hello", by
    have h : aw0Tick.txS = [dataFrame false (asc "hello")] := by decide +kernel
    rw [h] at hf
    exact List.mem_singleton.mp hf⟩
  txRFrames := fun f hf => by
    have h : aw0Tick.txR = [] := by decide +kernel
    rw [h] at hf
    exact absurd hf (by simp)

theorem witness_step_of_invariant : ∃ t, step aw0Tick = .next t ∧ (t.now == 1#32) = true :=
  exists_of_nextIs _ (fun t => t.now == 1#32) (by decide +kernel)
theorem witness_state_moves :
    (∃ t, step (offered (encode (.sndSend (asc "hello"))) start) = .next t ∧ (t.sndState == .aw0) = true)
      ∧ (∃ t, step (offered (encode (.sndRx (asc "-1|0|1|0|"))) aw0) = .next t ∧ (t.sndState == .rts1) = true)
      ∧ (∃ t, step { aw0 with schedule := [.reset testCfg] } = .next t ∧ (t.sndState == .rts0) = true)
      ∧ start.sndState = .rts0 ∧ aw0.sndState = .aw0 :=
  ⟨exists_of_nextIs _ (fun t => t.sndState == .aw0) (by decide +kernel),
    exists_of_nextIs _ (fun t => t.sndState == .rts1) (by decide +kernel),
    exists_of_nextIs _ (fun t => t.sndState == .rts0) (by decide +kernel), by decide +kernel⟩
/-- Each register of the statement changes in some step that is no reset. -/
theorem witness_registers_written :
    (∃ t, step (offered (encode (.sndRx (asc "-1|0|1|0|"))) (State.ticks 4 aw0)) = .next t
        ∧ (t.estTimeout != aw0.estTimeout && t.lastRtt != aw0.lastRtt) = true)
      ∧ (∃ t, step (offered (encode .sndShutdown) start) = .next t ∧ t.shutdown = true)
      ∧ (∃ t, step (offered (encode (.sndSend (asc "hello"))) start) = .next t
          ∧ (t.bytesSent != start.bytesSent) = true)
      ∧ (∃ t, step (offered (encode (.rcvRx helloFrame)) start) = .next t ∧ (t.expected != start.expected) = true)
      ∧ ∀ (c : Command) (s : State) (cfg : Config) (rest : List Event), (offered c s).schedule ≠ .reset cfg :: rest :=
  ⟨exists_of_nextIs _ (fun t => t.estTimeout != aw0.estTimeout && t.lastRtt != aw0.lastRtt) (by decide +kernel),
    exists_of_nextIs _ (fun t => t.shutdown) (by decide +kernel),
    exists_of_nextIs _ (fun t => t.bytesSent != start.bytesSent) (by decide +kernel),
    exists_of_nextIs _ (fun t => t.expected != start.expected) (by decide +kernel),
    fun c s cfg rest => by simp [offered]⟩
theorem witness_race :
    aw0Latched.shutdown = false ∧ aw0Latched.sndState.awaiting = true ∧ aw0Latched.tmrPend = true
      ∧ aw0Latched.cleanS = true ∧ aw0Latched.txS.length < aw0Latched.cfg.outDepth
      ∧ (decodeFrame ((asc "-1|0|1|0|").take aw0Latched.cfg.maxFrame)).isCorrupt = false
      ∧ (decodeFrame ((asc "-1|0|1|0|").take aw0Latched.cfg.maxFrame)).isAck = true
      ∧ (decodeFrame ((asc "-1|0|1|0|").take aw0Latched.cfg.maxFrame)).ack
          = (if aw0Latched.sndState.bit then 1#32 else 0#32) := by decide +kernel
theorem witness_commute :
    (UnitEvent.command .sndTimeout).isSender = true ∧ (UnitEvent.command (.rcvRx helloFrame)).isReceiver = true
      ∧ UnitEvent.tick.isSender = true ∧ UnitEvent.takeDeliver.isReceiver = true
      ∧ aw0.port = none ∧ aw0.resp = none := by decide +kernel

end Sys2Proof.Tests
end

section
/-! The statements about the Sender's registers and the invariant of reachable states: the rules of the
operations first, then what one command can do (`CommandEffect`), then the five statements. -/

namespace Sys2Proof.Machine

/-! ### The length of a frame (30_encoding.md R76) -/

theorem sdec_bitWord_length (b : Bool) : (sdec (bitWord b)).length = 1 := by cases b <;> decide

theorem sdec_minusOne_length : (sdec minusOne).length = 2 := by decide

theorem flagText_length (k : Bool) : (flagText k).length = 1 := by cases k <;> rfl

theorem udec_length_le (u : Word) : (udec u).length ≤ 10 := (digitsOf_length 10 u.toNat (by decide)).2

/-- A data frame's header is at most 18 bytes. -/
theorem dataFrame_length_le (b : Bool) (p : Bytes) : (dataFrame b p).length ≤ p.length + 18 := by
  have hd := udec_length_le (crc32 p)
  simp only [dataFrame, encodeFrame, List.length_append, List.length_cons, sdec_bitWord_length,
    sdec_minusOne_length, flagText_length]
  omega

/-- A payload within `MAX_PAYLOAD` gives a frame within `MAX_FRAME` (30_encoding.md R78). -/
theorem dataFrame_length_le_maxFrame {cfg : Config} {data : Bytes} (b : Bool) (hcfg : configValid cfg = true)
    (hdata : data.length ≤ maxPayload cfg) : (dataFrame b data).length ≤ cfg.maxFrame := by
  obtain ⟨-, -, -, -, -, -, hmin, -, -, -⟩ := (configValid_iff cfg).mp hcfg
  have hlen := dataFrame_length_le b data
  simp only [maxPayload] at hdata
  omega

/-- The length of a frame within the limit fits the 16 bits of `PEND_LEN`. -/
theorem dataFrame_length_lt {cfg : Config} {data : Bytes} (b : Bool) (hcfg : configValid cfg = true)
    (hdata : data.length ≤ maxPayload cfg) : (dataFrame b data).length < 65536 := by
  obtain ⟨-, -, -, -, -, -, -, hmax, -, -⟩ := (configValid_iff cfg).mp hcfg
  exact Nat.lt_of_le_of_lt (dataFrame_length_le_maxFrame b hcfg hdata) (Nat.lt_succ_of_le hmax)

/-! ### What `SND_SEND` leaves in the pending frame (43_sender.md R139) -/

@[simp] theorem State.sendNew_pendBuf (s : State) (data : Bytes) :
    (s.sendNew data).pendBuf = (s.storePending (dataFrame s.sndState.bit data)).pendBuf := rfl

@[simp] theorem State.sendNew_pendLen (s : State) (data : Bytes) :
    (s.sendNew data).pendLen = BitVec.ofNat 16 (dataFrame s.sndState.bit data).length := rfl

theorem sendNew_pendLen_toNat {s : State} {data : Bytes} (hcfg : configValid s.cfg = true)
    (hdata : data.length ≤ maxPayload s.cfg) :
    (s.sendNew data).pendLen.toNat = (dataFrame s.sndState.bit data).length := by
  rw [State.sendNew_pendLen, BitVec.toNat_ofNat]
  exact Nat.mod_eq_of_lt (dataFrame_length_lt _ hcfg hdata)

theorem sendNew_pendingFrame {s : State} {data : Bytes} (hcfg : configValid s.cfg = true)
    (hdata : data.length ≤ maxPayload s.cfg) :
    (s.sendNew data).pendingFrame = dataFrame s.sndState.bit data :=
  pendingFrame_storePending s _ (dataFrame_length_lt _ hcfg hdata)

theorem sendNew_pendBuf_getElem? {s : State} {data : Bytes} {k : Nat}
    (hk : (dataFrame s.sndState.bit data).length ≤ k) :
    (s.sendNew data).pendBuf[k]? = s.pendBuf[k]? := by
  rw [State.sendNew_pendBuf, State.storePending_pendBuf, List.getElem?_append_right hk, List.getElem?_drop,
    Nat.add_sub_cancel' hk]

/-- The transmitting path of `SND_SEND`, under the negation of every earlier check. -/
theorem execSndSend_transmits {s : State} {data : Bytes} (hdata : data.length ≤ maxPayload s.cfg)
    (hshut : s.shutdown = false) (hidle : s.sndState.awaiting = false) (hroom : s.txS.length < s.cfg.outDepth) :
    execSndSend data s = .next ((s.sendNew data).respond (sentResponse (dataFrame s.sndState.bit data))) := by
  simp [execSndSend, (payloadTooLong_eq_false_iff _ _).mpr hdata, hshut, hidle, (hasRoom_iff _ _).mpr hroom]

/-! ### The estimate (42_timer_rtt.md R133, R134) -/

/-- The weighted sum of two words stays in 32 bits, so the new estimate does not wrap. -/
theorem ewma_toNat {a : Nat} (ha : a ≤ 256) (est sample : Word) :
    (ewma a est sample).toNat = max (((256 - a) * est.toNat + a * sample.toNat) / 256) 1 := by
  have hsum : (256 - a) * est.toNat + a * sample.toNat ≤ 256 * 4294967295 :=
    calc (256 - a) * est.toNat + a * sample.toNat
        ≤ (256 - a) * 4294967295 + a * 4294967295 :=
          Nat.add_le_add (Nat.mul_le_mul_left _ (by omega)) (Nat.mul_le_mul_left _ (by omega))
      _ = 256 * 4294967295 := by rw [← Nat.add_mul, Nat.sub_add_cancel ha]
  rw [ewma, BitVec.toNat_ofNat]
  omega

theorem ewma_ne_zero {a : Nat} (ha : a ≤ 256) (est sample : Word) : ewma a est sample ≠ 0#32 := by
  intro h
  have hnat := congrArg BitVec.toNat h
  rw [ewma_toNat ha, BitVec.toNat_zero] at hnat
  omega

/-! ### What one command can do -/

/-- `CommandEffect s i t`: a run of the command `i` from `s` may end in `t`. Each path that changes more than the
port, the response and the draw inputs has a constructor of its own, with the checks that lead to it. -/
inductive CommandEffect (s : State) : Instr → State → Prop
  /-- Not enabled: the command stays on the port (20_memory.md R61). -/
  | held (i : Instr) : CommandEffect s i s
  /-- Only a response: the Codec, `CSR_RD`, `SND_READY` and every refusal. -/
  | answered (i : Instr) (r : Response) : CommandEffect s i (s.respond r)
  /-- An inbound frame for the Sender that was dropped, discarded or ignored. -/
  | drewS (data : Bytes) (r : Response) : CommandEffect s (.sndRx data) (s.takeDrawsS.respond r)
  /-- An inbound frame for the Receiver that was dropped. -/
  | drewR (data : Bytes) (r : Response) : CommandEffect s (.rcvRx data) (s.takeDrawsR.respond r)
  /-- `SND_SEND` in a ready state (43_sender.md R139). -/
  | sent (data : Bytes) (r : Response) (hdata : data.length ≤ maxPayload s.cfg) (hshut : s.shutdown = false)
      (hidle : s.sndState.awaiting = false) (hroom : s.txS.length < s.cfg.outDepth) :
      CommandEffect s (.sndSend data) ((s.sendNew data).respond r)
  /-- `SND_RX` with the awaited ACK (43_sender.md R144). -/
  | matched (data : Bytes) (r : Response) (hwait : s.sndState.awaiting = true) (hclean : s.cleanS = true)
      (hintact : (decodeFrame (data.take s.cfg.maxFrame)).isCorrupt = false)
      (hisAck : (decodeFrame (data.take s.cfg.maxFrame)).isAck = true)
      (hack : (decodeFrame (data.take s.cfg.maxFrame)).ack = bitWord s.sndState.bit) :
      CommandEffect s (.sndRx data) (s.takeDrawsS.ackMatched.respond r)
  /-- `SND_RX` with an ACK for the other bit (43_sender.md R145). -/
  | mismatched (data : Bytes) (r : Response) (hwait : s.sndState.awaiting = true)
      (hroom : s.txS.length < s.cfg.outDepth) :
      CommandEffect s (.sndRx data) ((s.takeDrawsS.transmit s.pendingFrame).respond r)
  /-- `SND_TIMEOUT` while awaiting (43_sender.md R147, R148). -/
  | timedOut (r : Response) (hshut : s.shutdown = false) (hwait : s.sndState.awaiting = true)
      (hroom : s.txS.length < s.cfg.outDepth) :
      CommandEffect s .sndTimeout ((s.transmit s.pendingFrame).respond r)
  /-- `SND_SHUTDOWN` (43_sender.md R150). -/
  | shutDown (r : Response) : CommandEffect s .sndShutdown (State.respond r { s with shutdown := true })
  /-- `RCV_RX` with the expected frame (44_receiver.md R156). -/
  | accepted (data : Bytes) (r : Response) (hroomD : s.deliver.length < s.cfg.outDepth)
      (hroomR : s.txR.length < s.cfg.outDepth) :
      CommandEffect s (.rcvRx data)
        ((s.takeDrawsR.acceptPayload (decodeFrame (data.take s.cfg.maxFrame)).payload).respond r)
  /-- `RCV_RX` with any other frame that arrives (44_receiver.md R157). -/
  | reAcked (data : Bytes) (r : Response) (hroomR : s.txR.length < s.cfg.outDepth) :
      CommandEffect s (.rcvRx data) (s.takeDrawsR.reAck.respond r)

/-- A check that ends in a refusal or else in a response (the commands of the Codec). -/
theorem CommandEffect.answeredIf {s : State} (i : Instr) (check : Bool) (st : Status) (r : Response) :
    CommandEffect s i (if check then s.refuse st else s.respond r) := by
  split <;> exact .answered _ _

theorem execSndSend_effect {data : Bytes} {s t : State} (h : execSndSend data s = .next t) :
    CommandEffect s (.sndSend data) t := by
  obtain rfl | ⟨rfl, -⟩ | ⟨rfl, -⟩ | ⟨rfl, hdata, hshut, hidle, hroom⟩ | ⟨rfl, -⟩ := execSndSend_cases data s t h
  · exact .answered _ _
  · exact .answered _ _
  · exact .answered _ _
  · exact .sent data _ hdata hshut hidle hroom
  · exact .held _

theorem execSndRx_effect {data : Bytes} {s t : State} (h : execSndRx data s = .next t) :
    CommandEffect s (.sndRx data) t := by
  obtain ⟨rfl, -⟩ | ⟨r, rfl, -⟩ | ⟨r, rfl, -, hwait, hclean, hintact, hisAck, hack⟩ | ⟨r, rfl, -, hwait, hroom⟩
    | ⟨rfl, -⟩ := execSndRx_cases data s t h
  · exact .answered _ _
  · exact .drewS data r
  · exact .matched data r hwait hclean hintact hisAck hack
  · exact .mismatched data r hwait hroom
  · exact .held _

theorem execSndTimeout_effect {s t : State} (h : execSndTimeout s = .next t) : CommandEffect s .sndTimeout t := by
  obtain ⟨rfl, -⟩ | ⟨rfl, -⟩ | ⟨rfl, -⟩ | ⟨rfl, hshut, hwait, hroom⟩ := execSndTimeout_cases s t h
  · exact .answered _ _
  · exact .held _
  · exact .answered _ _
  · exact .timedOut _ hshut hwait hroom

theorem execRcvRx_effect {data : Bytes} {s t : State} (h : execRcvRx data s = .next t) :
    CommandEffect s (.rcvRx data) t := by
  obtain ⟨r, rfl, -⟩ | ⟨r, rfl, -, -, hroomD, hroomR⟩ | ⟨r, rfl, -, hroomR⟩ | rfl := execRcvRx_cases data s t h
  · exact .drewR data r
  · exact .accepted data r hroomD hroomR
  · exact .reAcked data r hroomR
  · exact .held _

/-- Every run of a command is one of the paths of `CommandEffect`. -/
theorem exec_effect {i : Instr} {s t : State} (h : exec i s = .next t) : CommandEffect s i t := by
  cases i with
  | enc seqCode ackCode isAck data =>
    obtain ⟨rfl, -⟩ | ⟨rfl, -⟩ | rfl := execEnc_cases seqCode ackCode isAck data s t h
    all_goals exact .answered _ _
  | dec data => cases h; exact .answeredIf _ _ _ _
  | dig data => cases h; exact .answeredIf _ _ _ _
  | vfy digest data => cases h; exact .answeredIf _ _ _ _
  | sndSend data => exact execSndSend_effect h
  | sndRx data => exact execSndRx_effect h
  | sndTimeout => exact execSndTimeout_effect h
  | sndReady => cases h; exact .answered _ _
  | sndShutdown => cases h; exact .shutDown _
  | rcvRx data => exact execRcvRx_effect h
  | csrRd csr =>
    cases h
    split <;> exact .answered _ _

/-! ### The operations keep the invariant -/

/-- The fields that `State.Inv` reads. -/
def State.invFields (s : State) :=
  (s.cfg, s.tmrArmed, s.tmrPend, s.tmrCount, s.sndState, s.pendValid, s.pendLen, s.pendBuf, s.estTimeout, s.txS,
    s.txR, s.deliver)

namespace State.Inv
variable {s t : State}

/-- The invariant depends on `State.invFields` alone; for an update of other fields the premise is `rfl`. -/
theorem congr (hs : s.Inv) (h : t.invFields = s.invFields) : t.Inv := by
  simp only [State.invFields, Prod.mk.injEq] at h
  obtain ⟨hcfg, harmed, hpend, hcount, hstate, hvalid, hlen, hbuf, hest, htxS, htxR, hdeliver⟩ := h
  constructor <;>
    simp only [State.pendingFrame, hcfg, harmed, hpend, hcount, hstate, hvalid, hlen, hbuf, hest, htxS, htxR, hdeliver]
  exacts [hs.cfgValid, hs.timerExclusive, hs.armedCounts, hs.timerLive, hs.pendValidAwaiting,
    hs.pendingIsDataFrame, hs.noPendingLength, hs.pendBufSize, hs.estPositive, hs.txSDepth, hs.txRDepth,
    hs.deliverDepth, hs.txSFrames, hs.txRFrames]

theorem respond (hs : s.Inv) (r : Response) : (s.respond r).Inv := hs.congr rfl

theorem present (hs : s.Inv) (c : Command) : (s.present c).Inv := by
  unfold State.present
  split
  · exact hs
  · exact hs.congr rfl

theorem takeTxS (hs : s.Inv) : s.takeTxS.Inv :=
  { hs with
    txSDepth := by simpa using Nat.le_trans (Nat.sub_le _ 1) hs.txSDepth
    txSFrames := fun f hf => hs.txSFrames f (List.mem_of_mem_tail hf) }

theorem takeTxR (hs : s.Inv) : s.takeTxR.Inv :=
  { hs with
    txRDepth := by simpa using Nat.le_trans (Nat.sub_le _ 1) hs.txRDepth
    txRFrames := fun f hf => hs.txRFrames f (List.mem_of_mem_tail hf) }

theorem takeDeliver (hs : s.Inv) : s.takeDeliver.Inv :=
  { hs with deliverDepth := by simpa using Nat.le_trans (Nat.sub_le _ 1) hs.deliverDepth }

/-- A latched expiry is cancelled. -/
theorem clearPend (hs : s.Inv) : State.Inv { s with tmrPend := false } :=
  { hs with
    timerExclusive := fun _ => rfl
    timerLive := fun h => hs.timerLive (h.imp_right (fun hf => absurd hf Bool.false_ne_true)) }

theorem tick (hs : s.Inv) : s.tick.Inv := by
  obtain ⟨-, ht⟩ | ⟨harmed, -, ht⟩ | ⟨harmed, hcount, ht⟩ := tick_cases s <;> rw [ht]
  · exact hs.congr rfl
  · exact { hs with
      timerExclusive := fun h => absurd h Bool.false_ne_true
      armedCounts := fun h => absurd h Bool.false_ne_true
      timerLive := fun _ => hs.timerLive (.inl harmed) }
  · exact { hs with armedCounts := fun _ => hcount }

/-- While awaiting, the pending frame may be sent again. -/
theorem retransmit (hs : s.Inv) (hwait : s.sndState.awaiting = true) (hroom : s.txS.length < s.cfg.outDepth) :
    (s.transmit s.pendingFrame).Inv :=
  { hs with
    timerExclusive := fun _ => rfl
    armedCounts := fun _ => hs.estPositive
    timerLive := fun _ => hwait
    txSDepth := by simpa using Nat.succ_le_of_lt hroom
    txSFrames := fun f hf => by
      simp only [State.transmit_txS, List.mem_append, List.mem_singleton] at hf
      obtain hf | rfl := hf
      · exact hs.txSFrames f hf
      · obtain ⟨p, -, hp, -⟩ := hs.pendingIsDataFrame (hs.pendValidAwaiting.trans hwait)
        exact ⟨_, p, hp⟩ }

theorem expire (hs : s.Inv) : s.expire.Inv := by
  obtain ⟨-, he⟩ | ⟨-, -, he⟩ | ⟨-, -, hwait, hroom, he⟩ := expire_cases s <;> rw [he]
  · exact hs
  · exact hs.clearPend
  · exact hs.clearPend.retransmit hwait ((hasRoom_iff _ _).mp hroom)

theorem sendNew (hs : s.Inv) {data : Bytes} (hdata : data.length ≤ maxPayload s.cfg)
    (hroom : s.txS.length < s.cfg.outDepth) : (s.sendNew data).Inv :=
  have hwait : (awaitState s.sndState.bit).awaiting = true := awaitState_awaiting _
  { hs with
    timerExclusive := fun _ => rfl
    armedCounts := fun _ => hs.estPositive
    timerLive := fun _ => hwait
    pendValidAwaiting := hwait.symm
    pendingIsDataFrame := fun _ => ⟨data, hdata, by
      have hbit : (s.sendNew data).sndState.bit = s.sndState.bit := awaitState_bit _
      rw [hbit]
      exact ⟨sendNew_pendingFrame hs.cfgValid hdata, sendNew_pendLen_toNat hs.cfgValid hdata⟩⟩
    noPendingLength := fun h => absurd h.symm Bool.false_ne_true
    pendBufSize := by
      rw [State.sendNew_pendBuf, storePending_pendBuf_length s _ ?_]
      · exact hs.pendBufSize
      · exact hs.pendBufSize ▸ dataFrame_length_le_maxFrame _ hs.cfgValid hdata
    txSDepth := by simpa [State.sendNew] using Nat.succ_le_of_lt hroom
    txSFrames := fun f hf => by
      simp only [State.sendNew, State.transmit_txS, State.storePending_txS, List.mem_append,
        List.mem_singleton] at hf
      obtain hf | rfl := hf
      · exact hs.txSFrames f hf
      · exact ⟨_, data, rfl⟩ }

theorem ackMatched (hs : s.Inv) : s.ackMatched.Inv :=
  have hready : (readyState (otherBit s.sndState.bit)).awaiting = false := readyState_awaiting _
  { hs with
    timerExclusive := fun _ => rfl
    armedCounts := fun h => absurd h Bool.false_ne_true
    timerLive := fun h => absurd h (by simp [State.ackMatched])
    pendValidAwaiting := hready.symm
    pendingIsDataFrame := fun h => absurd h Bool.false_ne_true
    noPendingLength := fun _ => rfl
    estPositive := by
      obtain ⟨-, -, -, halpha, -⟩ := (configValid_iff s.cfg).mp hs.cfgValid
      exact ewma_ne_zero (Nat.le_succ_of_le halpha) _ _ }

/-- The Receiver may emit an ACK frame. -/
theorem emitAck (hs : s.Inv) (n : Bool) (hroom : s.txR.length < s.cfg.outDepth) :
    (s.emitTxR (ackFrame n)).Inv :=
  { hs with
    txRDepth := by simpa using Nat.succ_le_of_lt hroom
    txRFrames := fun f hf => by
      simp only [State.emitTxR_txR, List.mem_append, List.mem_singleton] at hf
      obtain hf | rfl := hf
      · exact hs.txRFrames f hf
      · exact ⟨n, rfl⟩ }

theorem emitDeliver (hs : s.Inv) (payload : Bytes) (hroom : s.deliver.length < s.cfg.outDepth) :
    (s.emitDeliver payload).Inv :=
  { hs with deliverDepth := by simpa using Nat.succ_le_of_lt hroom }

theorem acceptPayload (hs : s.Inv) (payload : Bytes) (hroomD : s.deliver.length < s.cfg.outDepth)
    (hroomR : s.txR.length < s.cfg.outDepth) : (s.acceptPayload payload).Inv :=
  ((hs.emitDeliver payload hroomD).emitAck s.expected hroomR).congr rfl

/-- A reset with a valid configuration makes a state of the invariant. -/
theorem resetWith {cfg : Config} (hcfg : configValid cfg = true) : (State.resetWith cfg).Inv where
  cfgValid := hcfg
  timerExclusive := fun _ => rfl
  armedCounts := fun h => absurd h Bool.false_ne_true
  timerLive := fun h => absurd h (by simp [State.resetWith])
  pendValidAwaiting := rfl
  pendingIsDataFrame := fun h => absurd h Bool.false_ne_true
  noPendingLength := fun _ => rfl
  pendBufSize := List.length_replicate
  estPositive := by
    obtain ⟨hmin, hmax, -⟩ := (configValid_iff cfg).mp hcfg
    intro h
    have hnat : cfg.initTimeout % 2 ^ 32 = 0 := congrArg BitVec.toNat h
    omega
  txSDepth := Nat.zero_le _
  txRDepth := Nat.zero_le _
  deliverDepth := Nat.zero_le _
  txSFrames := fun _ hf => absurd hf List.not_mem_nil
  txRFrames := fun _ hf => absurd hf List.not_mem_nil

/-- Every path of every command keeps the invariant. -/
theorem of_effect (hs : s.Inv) {i : Instr} (h : CommandEffect s i t) : t.Inv := by
  have hdrewS : s.takeDrawsS.Inv := hs.congr rfl
  have hdrewR : s.takeDrawsR.Inv := hs.congr rfl
  cases h with
  | held => exact hs
  | answered _ r => exact hs.respond r
  | drewS _ r => exact hdrewS.respond r
  | drewR _ r => exact hdrewR.respond r
  | sent _ r hdata _ _ hroom => exact (hs.sendNew hdata hroom).respond r
  | matched _ r => exact hdrewS.ackMatched.respond r
  | mismatched _ r hwait hroom => exact (hdrewS.retransmit hwait hroom).respond r
  | timedOut r _ hwait hroom => exact (hs.retransmit hwait hroom).respond r
  | shutDown r => exact hs.congr rfl
  | accepted _ r hroomD hroomR => exact (hdrewR.acceptPayload _ hroomD hroomR).respond r
  | reAcked _ r hroomR => exact (hdrewR.emitAck _ hroomR).respond r

theorem acceptCommand (hs : s.Inv) (h : acceptCommand s = .next t) : t.Inv := by
  obtain ⟨-, rfl⟩ | ⟨-, -, -, -, rfl⟩ | ⟨-, i, -, -, h⟩ := acceptCommand_cases s t h
  · exact hs
  · exact hs.respond _
  · exact hs.of_effect (exec_effect h)

end State.Inv

/-- Settles O56: the operation of each event keeps the invariant, and a reset builds it anew. -/
theorem everyStepKeepsTheInvariant : Obligations.EveryStepKeepsTheInvariant := by
  unfold Obligations.EveryStepKeepsTheInvariant
  intro s t hs h
  obtain ⟨-, rfl⟩ | ⟨e, rest, -, he⟩ := step_cases s t h
  · exact hs
  have hs' : State.Inv { s with schedule := rest } := hs.congr rfl
  obtain ⟨c, -, rfl⟩ | ⟨-, h⟩ | ⟨-, rfl⟩ | ⟨-, rfl⟩ | ⟨-, rfl⟩ | ⟨-, rfl⟩ | ⟨-, rfl⟩ | ⟨cfg, -, hcfg, rfl⟩ := he
  · exact hs'.present c
  · exact hs'.acceptCommand h
  · exact hs'.tick
  · exact hs'.expire
  · exact hs'.takeTxS
  · exact hs'.takeTxR
  · exact hs'.takeDeliver
  · exact (State.Inv.resetWith hcfg).congr rfl

/-- Settles O35: the frame fits `PEND_BUF` and the 16 bits of `PEND_LEN`. -/
theorem pendBufHoldsTheSentFrame : Obligations.PendBufHoldsTheSentFrame := by
  unfold Obligations.PendBufHoldsTheSentFrame
  intro s data hcfg hdata hshut hidle hroom
  exact ⟨_, execSndSend_transmits hdata hshut hidle hroom, sendNew_pendingFrame hcfg hdata,
    sendNew_pendLen_toNat hcfg hdata, fun _ hk => sendNew_pendBuf_getElem? hk⟩

/-! ### Who writes the registers -/

/-- The registers each of which one kind of event writes, and the configuration. -/
structure Registers where
  estTimeout : Word
  lastRtt : Word
  shutdown : Bool
  bytesSent : BitVec 64
  now : Word
  expected : Bool
  cfg : Config

/-- The registers of a state. -/
def State.registers (s : State) : Registers where
  estTimeout := s.estTimeout
  lastRtt := s.lastRtt
  shutdown := s.shutdown
  bytesSent := s.bytesSent
  now := s.now
  expected := s.expected
  cfg := s.cfg

theorem State.registers_eq {t : State} {r : Registers} (h : t.registers = r) :
    t.estTimeout = r.estTimeout ∧ t.lastRtt = r.lastRtt ∧ t.shutdown = r.shutdown ∧ t.bytesSent = r.bytesSent
      ∧ t.now = r.now ∧ t.expected = r.expected ∧ t.cfg = r.cfg := by
  subst h
  exact ⟨rfl, rfl, rfl, rfl, rfl, rfl, rfl⟩

theorem tick_registers (s : State) : s.tick.registers = { s.registers with now := s.now + 1#32 } := by
  obtain ⟨-, ht⟩ | ⟨-, -, ht⟩ | ⟨-, -, ht⟩ := tick_cases s <;> rw [ht] <;> rfl

theorem expire_registers (s : State) : s.expire.registers = s.registers := by
  obtain ⟨-, he⟩ | ⟨-, -, he⟩ | ⟨-, -, -, -, he⟩ := expire_cases s <;> rw [he] <;> rfl

theorem present_registers (s : State) (c : Command) : (s.present c).registers = s.registers := by
  unfold State.present
  split <;> rfl

@[simp] theorem State.acceptPayload_deliver (s : State) (payload : Bytes) :
    (s.acceptPayload payload).deliver = s.deliver ++ [payload] := rfl

@[simp] theorem State.acceptPayload_txR (s : State) (payload : Bytes) :
    (s.acceptPayload payload).txR = s.txR ++ [ackFrame s.expected] := rfl

/-- What the command `i` writes to the registers: each of four commands its own, on one path, and no other any. -/
def CommandWrites (i : Instr) (s t : State) : Prop :=
  t.registers = s.registers
  ∨ (∃ data, i = .sndRx data ∧ s.sndState.awaiting = true ∧ t.sndState.awaiting = false
      ∧ t.registers = { s.registers with
          lastRtt := s.now - s.sendTs
          estTimeout := ewma s.cfg.alphaQ8 s.estTimeout (s.now - s.sendTs) })
  ∨ (∃ data, i = .sndSend data
      ∧ t.registers = { s.registers with bytesSent := s.bytesSent + BitVec.ofNat 64 data.length })
  ∨ (i = .sndShutdown ∧ t.registers = { s.registers with shutdown := true })
  ∨ (∃ data, i = .rcvRx data ∧ t.deliver = s.deliver ++ [(decodeFrame (data.take s.cfg.maxFrame)).payload]
      ∧ t.txR = s.txR ++ [ackFrame s.expected]
      ∧ t.registers = { s.registers with expected := otherBit s.expected })

theorem CommandEffect.writes {s t : State} {i : Instr} (h : CommandEffect s i t) : CommandWrites i s t := by
  cases h with
  | matched data r hwait => exact .inr (.inl ⟨data, rfl, hwait, readyState_awaiting _, rfl⟩)
  | sent data r => exact .inr (.inr (.inl ⟨data, rfl, by simp [State.registers, State.sendNew]⟩))
  | shutDown r => exact .inr (.inr (.inr (.inl ⟨rfl, rfl⟩)))
  | accepted data r =>
    exact .inr (.inr (.inr (.inr
      ⟨data, rfl, by simp, by simp, by simp [State.registers, State.acceptPayload]⟩)))
  | _ => exact .inl (by simp [State.registers, State.reAck])

/-- A step that is no reset writes the registers only as a tick or as the command on the port. -/
theorem step_registers {s t : State} (h : step s = .next t)
    (hreset : ∀ (cfg : Config) (rest : List Event), s.schedule ≠ .reset cfg :: rest) :
    t.registers = s.registers
    ∨ (∃ rest, s.schedule = .tick :: rest ∧ t.registers = { s.registers with now := s.now + 1#32 })
    ∨ ∃ (c : Command) (rest : List Event) (i : Instr), s.schedule = .accept :: rest ∧ s.port = some c
        ∧ decode c = .instr i ∧ CommandWrites i { s with schedule := rest } t := by
  obtain ⟨-, rfl⟩ | ⟨e, rest, hsch, he⟩ := step_cases s t h
  · exact .inl rfl
  obtain ⟨c, -, rfl⟩ | ⟨rfl, h⟩ | ⟨rfl, rfl⟩ | ⟨-, rfl⟩ | ⟨-, rfl⟩ | ⟨-, rfl⟩ | ⟨-, rfl⟩ | ⟨cfg, rfl, -, -⟩ := he
  · exact .inl (present_registers _ c)
  · obtain ⟨-, rfl⟩ | ⟨-, -, -, -, rfl⟩ | ⟨c, i, hport, hdec, h⟩ := acceptCommand_cases _ t h
    · exact .inl rfl
    · exact .inl rfl
    · exact .inr (.inr ⟨c, rest, i, hsch, hport, hdec, (exec_effect h).writes⟩)
  · exact .inr (.inl ⟨rest, hsch, tick_registers _⟩)
  · exact .inl (expire_registers _)
  · exact .inl rfl
  · exact .inl rfl
  · exact .inl rfl
  · exact absurd hsch (hreset cfg rest)

/-- Settles O58: in each case of `step_registers` all clauses but at most one are about unchanged registers. -/
theorem registersAreWrittenOnlyByTheirEvents : Obligations.RegistersAreWrittenOnlyByTheirEvents := by
  unfold Obligations.RegistersAreWrittenOnlyByTheirEvents
  intro s t h hreset
  obtain hreg | ⟨rest, hsch, hreg⟩ | ⟨c, rest, i, hsch, hport, hdec, hreg | ⟨data, rfl, hwait, hready, hreg⟩
    | ⟨data, rfl, hreg⟩ | ⟨rfl, hreg⟩ | ⟨data, rfl, hdeliver, htxR, hreg⟩⟩ := step_registers h hreset
  all_goals
    obtain ⟨hest, hrtt, hshut, hbytes, hnow, hexp, hcfg⟩ := State.registers_eq hreg
    simp only [State.registers, hest, hrtt, hshut, hbytes, hnow, hexp, hcfg, ne_eq, not_true_eq_false, or_self,
      false_imp_iff, imp_self, implies_true, true_and, and_true]
  · exact fun _ => ⟨rest, hsch⟩
  · exact fun _ => ⟨hwait, hready⟩
  · exact fun _ => ⟨c, rest, data, hsch, hport, hdec, rfl⟩
  · exact fun _ => ⟨c, rest, hsch, hport, hdec⟩
  · exact fun _ => ⟨c, rest, data, hsch, hport, hdec, hdeliver, htxR⟩

/-! ### Codes and numbers -/

/-- `CSR_RD` of an unassigned number reads nothing (10_state.md R29, R31). -/
theorem csrValue_eq_none (s : State) {n : BitVec 8}
    (h : (0x0C ≤ n.toNat ∧ n.toNat ≤ 0x0F) ∨ 0x16 ≤ n.toNat) : csrValue s n = none := by
  have hne (m : BitVec 8) (hm : m.toNat < 0x0C ∨ (0x10 ≤ m.toNat ∧ m.toNat < 0x16)) : n ≠ m := by
    rintro rfl
    omega
  simp [csrValue, hne]

/-- Settles O50: the number is none of the assigned ones, and the response is the refusal's. -/
theorem unassignedCsrAnswersBadCsr : Obligations.UnassignedCsrAnswersBadCsr := by
  unfold Obligations.UnassignedCsrAnswersBadCsr
  intro s n hn
  simp only [exec, execCsrRd, csrValue_eq_none s hn]
  rfl

theorem SndState.code_bits (x : SndState) : x.code.getLsbD 0 = x.bit ∧ x.code.getLsbD 1 = x.awaiting := by
  cases x <;> decide

/-- The state of a code is found by its two bits. -/
theorem SndState.code_surjective (v : BitVec 2) :
    (if v.getLsbD 1 then awaitState (v.getLsbD 0) else readyState (v.getLsbD 0)).code = v := by
  revert v
  decide

/-- Settles O51, by cases on the state and, for the converse, on the two bits of the code. -/
theorem senderStateCodes : Obligations.SenderStateCodes :=
  ⟨rfl, rfl, rfl, rfl, SndState.code_bits, fun v => ⟨_, SndState.code_surjective v⟩⟩

end Sys2Proof.Machine
end

section
/-! The statements about when an event happens and when it does not (20_memory.md R61, R66), and about the
independence of the two units (R64): what an event of one unit reads and writes, in terms of the parts the two
units have of the state, then the four statements. -/

namespace Sys2Proof.Machine

/-! ### One step -/

theorem step_accept {s : State} {rest : List Event} (h : s.schedule = .accept :: rest) :
    step s = acceptCommand { s with schedule := rest } := by
  simp only [step, h, takeEvent]

theorem acceptCommand_of_decode {s : State} {c : Command} {i : Instr} (hport : s.port = some c)
    (hdec : decode c = .instr i) : acceptCommand s = exec i s := by
  simp [acceptCommand, fetch, hport, hdec]

/-- Settles O6: a step takes the accept event, and taking a command that decodes runs it. -/
theorem stepRunsTheDecodedCommand : Obligations.StepRunsTheDecodedCommand := by
  unfold Obligations.StepRunsTheDecodedCommand
  intro s rest h
  exact ⟨step_accept h, fun c i hport hdec => (step_accept h).trans (acceptCommand_of_decode hport hdec)⟩

/-! ### When the expiry is enabled (42_timer_rtt.md R128) -/

theorem timeoutEmits_iff (s : State) :
    s.timeoutEmits = true ↔ s.shutdown = false ∧ s.sndState.awaiting = true := by
  simp [State.timeoutEmits]

theorem expiryEnabled_iff (s : State) :
    s.expiryEnabled = true ↔ s.tmrPend = true ∧ (s.timeoutEmits = true → s.txS.length < s.cfg.outDepth) := by
  simp only [State.expiryEnabled, Bool.and_eq_true, Bool.or_eq_true, Bool.not_eq_true', hasRoom_iff]
  cases s.timeoutEmits <;> simp

theorem expire_of_not_enabled {s : State} (h : ¬ s.expiryEnabled = true) : s.expire = s := if_neg h

/-- Settles O32: the first two cases are not enabled, the third is and does not emit. -/
theorem expiryWithoutRetransmission : Obligations.ExpiryWithoutRetransmission := by
  unfold Obligations.ExpiryWithoutRetransmission
  intro s
  refine ⟨fun hpend => ?_, fun _ hshut hwait hfull => ?_, fun hpend hshut => ?_⟩
  · refine expire_of_not_enabled fun he => ?_
    simp [((expiryEnabled_iff s).mp he).1] at hpend
  · refine expire_of_not_enabled fun he => ?_
    have hroom := ((expiryEnabled_iff s).mp he).2 ((timeoutEmits_iff s).mpr ⟨hshut, hwait⟩)
    omega
  · have hquiet : ¬ s.timeoutEmits = true := by simp [timeoutEmits_iff, hshut]
    obtain ⟨hoff, -⟩ | ⟨-, -, he⟩ | ⟨-, hup, -⟩ := expire_cases s
    · have hon := (expiryEnabled_iff s).mpr ⟨hpend, fun h => absurd h hquiet⟩
      exact absurd (hoff.symm.trans hon) Bool.false_ne_true
    · exact he
    · exact absurd (hup.symm.trans hshut) Bool.false_ne_true

/-! ### What reaches a unit on given draws (41_fault_injector.md R121, R123) -/

/-- A frame the injector does not mark is the decoded one. -/
@[simp] theorem markPacket_false (p : Packet) : markPacket p false = p := by simp [markPacket]

theorem inboundS_of_clean {s : State} (h : s.cleanS = true) (data : Bytes) :
    s.inboundS data = .arrived (decodeFrame (cutFrame s.cfg data))
      (flagsByte (decodeFrame (cutFrame s.cfg data)).isAck (decodeFrame (cutFrame s.cfg data)).isCorrupt
        (isMalformed (cutFrame s.cfg data)) false (isTruncated s.cfg data)) := by
  obtain ⟨hdrop, -⟩ | ⟨forced, -, -, hclean, hin⟩ := inboundS_cases s data
  · simp [State.cleanS, hdrop] at h
  · obtain rfl : forced = false := by simpa [h] using hclean
    simpa using hin

theorem inboundR_of_clean {s : State} (h : s.cleanR = true) (data : Bytes) :
    s.inboundR data = .arrived (decodeFrame (cutFrame s.cfg data))
      (flagsByte (decodeFrame (cutFrame s.cfg data)).isAck (decodeFrame (cutFrame s.cfg data)).isCorrupt
        (isMalformed (cutFrame s.cfg data)) false (isTruncated s.cfg data)) := by
  obtain ⟨hdrop, -⟩ | ⟨forced, -, -, hclean, hin⟩ := inboundR_cases s data
  · simp [State.cleanR, hdrop] at h
  · obtain rfl : forced = false := by simpa [h] using hclean
    simpa using hin

theorem inboundR_of_not_drops {s : State} (h : s.dropsR = false) (data : Bytes) :
    ∃ p fl, s.inboundR data = .arrived p fl := by
  obtain ⟨hdrop, -⟩ | ⟨_, -, -, -, hin⟩ := inboundR_cases s data
  · exact absurd (h.symm.trans hdrop) Bool.false_ne_true
  · exact ⟨_, _, hin⟩

/-! ### Held commands (20_memory.md R61, 70_reset_and_hazards.md R192) -/

section
variable {s : State} {data : Bytes}

theorem execSndSend_held (hdata : data.length ≤ maxPayload s.cfg) (hshut : s.shutdown = false)
    (hidle : s.sndState.awaiting = false) (hfull : s.cfg.outDepth ≤ s.txS.length) :
    execSndSend data s = .next s := by
  simp [execSndSend, (payloadTooLong_eq_false_iff _ _).mpr hdata, hshut, hidle,
    (hasRoom_eq_false_iff _ _).mpr hfull]

theorem execSndTimeout_held (hshut : s.shutdown = false) (hwait : s.sndState.awaiting = true)
    (hfull : s.cfg.outDepth ≤ s.txS.length) : execSndTimeout s = .next s := by
  simp [execSndTimeout, hshut, (timeoutEmits_iff s).mpr ⟨hshut, hwait⟩, (hasRoom_eq_false_iff _ _).mpr hfull]

/-- The mismatch path of `SND_RX` (43_sender.md R145). -/
theorem execSndRx_held (hshut : s.shutdown = false) (hwait : s.sndState.awaiting = true)
    (hclean : s.cleanS = true) (hintact : (decodeFrame (data.take s.cfg.maxFrame)).isCorrupt = false)
    (hisAck : (decodeFrame (data.take s.cfg.maxFrame)).isAck = true)
    (hack : (decodeFrame (data.take s.cfg.maxFrame)).ack ≠ bitWord s.sndState.bit)
    (hfull : s.cfg.outDepth ≤ s.txS.length) : execSndRx data s = .next s := by
  simp [execSndRx, hshut, inboundS_of_clean hclean, cutFrame, hintact, hisAck, hwait, hack,
    (hasRoom_eq_false_iff _ _).mpr hfull]

/-- Every path of `RCV_RX` but the drop emits an ACK. -/
theorem execRcvRx_held_of_txR_full (hdrop : s.dropsR = false) (hfull : s.cfg.outDepth ≤ s.txR.length) :
    execRcvRx data s = .next s := by
  obtain ⟨p, fl, hin⟩ := inboundR_of_not_drops hdrop data
  simp [execRcvRx, hin, (hasRoom_eq_false_iff _ _).mpr hfull]

/-- The accept path of `RCV_RX` (44_receiver.md R156). -/
theorem execRcvRx_held_of_deliver_full (hclean : s.cleanR = true)
    (hintact : (decodeFrame (data.take s.cfg.maxFrame)).isCorrupt = false)
    (hseq : (decodeFrame (data.take s.cfg.maxFrame)).seq = bitWord s.expected)
    (hfull : s.cfg.outDepth ≤ s.deliver.length) : execRcvRx data s = .next s := by
  simp [execRcvRx, inboundR_of_clean hclean, cutFrame, hintact, hseq, (hasRoom_eq_false_iff _ _).mpr hfull]

end

/-- Settles O45: one lemma per held command. -/
theorem commandIsHeldOnAFullFifo : Obligations.CommandIsHeldOnAFullFifo := by
  unfold Obligations.CommandIsHeldOnAFullFifo
  intro s
  refine ⟨fun hshut hfull => ⟨fun hidle data hdata => ?_, fun hwait => ?_,
      fun hwait hclean data hintact hisAck hack => ?_⟩,
    fun hdrop hfull data => ?_, fun hclean hfull data hintact hseq => ?_⟩
  · exact execSndSend_held hdata hshut hidle hfull
  · exact execSndTimeout_held hshut hwait hfull
  · exact execSndRx_held hshut hwait hclean hintact hisAck hack hfull
  · exact execRcvRx_held_of_txR_full hdrop hfull
  · exact execRcvRx_held_of_deliver_full hclean hintact hseq hfull

/-! ### The two units' parts of the state (20_memory.md R63, R64) -/

/-- What belongs to the Sender's side: its registers, the timer, `NOW`, `TX_S` and the draws of `INJ_S`. -/
structure SenderPart where
  sndState : SndState
  shutdown : Bool
  pendValid : Bool
  pendLen : BitVec 16
  pendBuf : List Byte
  sendTs : Word
  estTimeout : Word
  lastRtt : Word
  bytesSent : BitVec 64
  tmrArmed : Bool
  tmrPend : Bool
  tmrCount : Word
  now : Word
  txS : List Bytes
  rngS : DrawInput

/-- What belongs to the Receiver's side: `EXPECTED`, `TX_R`, `DELIVER` and the draws of `INJ_R`. -/
structure ReceiverPart where
  expected : Bool
  txR : List Bytes
  deliver : List Bytes
  rngR : DrawInput

namespace State

/-- The Sender's part of a state. -/
def sender (s : State) : SenderPart :=
  { s with }

/-- The Receiver's part of a state. -/
def receiver (s : State) : ReceiverPart :=
  { s with }

/-- A state with the Sender's part replaced. -/
def withSender (q : SenderPart) (s : State) : State :=
  { s with
    sndState := q.sndState, shutdown := q.shutdown, pendValid := q.pendValid, pendLen := q.pendLen
    pendBuf := q.pendBuf, sendTs := q.sendTs, estTimeout := q.estTimeout, lastRtt := q.lastRtt
    bytesSent := q.bytesSent, tmrArmed := q.tmrArmed, tmrPend := q.tmrPend, tmrCount := q.tmrCount
    now := q.now, txS := q.txS, rngS := q.rngS }

/-- A state with the Receiver's part replaced. -/
def withReceiver (r : ReceiverPart) (s : State) : State :=
  { s with expected := r.expected, txR := r.txR, deliver := r.deliver, rngR := r.rngR }

/-- A state with the command port and the response register replaced. -/
def withPort (port : Option Command) (resp : Option Response) (s : State) : State :=
  { s with port := port, resp := resp }

theorem withSender_withReceiver (q : SenderPart) (r : ReceiverPart) (s : State) :
    (s.withSender q).withReceiver r = (s.withReceiver r).withSender q := rfl

end State

/-! ### What an event of each unit reads

The checks of an event do not read the other unit's part, so replacing that part commutes with each `if`
(`apply_ite`), and with each operation under it by computation. -/

section
variable (r : ReceiverPart) (s : State)

theorem tick_withReceiver : (s.withReceiver r).tick = s.tick.withReceiver r := by
  simp only [State.tick, apply_ite (State.withReceiver r)]
  rfl

theorem onTimeout_withReceiver :
    (s.withReceiver r).onTimeout = Prod.map (State.withReceiver r) id s.onTimeout := by
  simp only [State.onTimeout, apply_ite (Prod.map (State.withReceiver r) id)]
  rfl

theorem expire_withReceiver : (s.withReceiver r).expire = s.expire.withReceiver r := by
  have ho : (State.onTimeout { s.withReceiver r with tmrPend := false }).1
      = (State.onTimeout { s with tmrPend := false }).1.withReceiver r :=
    congrArg Prod.fst (onTimeout_withReceiver r { s with tmrPend := false })
  simp only [State.expire, ho, apply_ite (State.withReceiver r)]
  rfl

theorem execSndSend_withReceiver {t : State} (data : Bytes) (h : execSndSend data s = .next t) :
    execSndSend data (s.withReceiver r) = .next (t.withReceiver r) := by
  cases h
  simp only [apply_ite (State.withReceiver r)]
  rfl

theorem execSndRx_withReceiver {t : State} (data : Bytes) (h : execSndRx data s = .next t) :
    execSndRx data (s.withReceiver r) = .next (t.withReceiver r) := by
  have hin : (s.withReceiver r).inboundS data = s.inboundS data := rfl
  cases h
  rw [execSndRx, hin]
  cases s.inboundS data with
  | dropped fl => simp only [apply_ite (State.withReceiver r)]; rfl
  | arrived p fl => simp only [apply_ite (State.withReceiver r)]; rfl

theorem execSndTimeout_withReceiver {t : State} (h : execSndTimeout s = .next t) :
    execSndTimeout (s.withReceiver r) = .next (t.withReceiver r) := by
  cases h
  simp only [execSndTimeout, onTimeout_withReceiver, apply_ite (State.withReceiver r)]
  rfl

/-- A command of the Sender does not read the Receiver's part, and carries it along. -/
theorem exec_withReceiver {i : Instr} {t : State} (hi : isSenderCommand i = true) (h : exec i s = .next t) :
    exec i (s.withReceiver r) = .next (t.withReceiver r) := by
  cases i with
  | sndSend data => exact execSndSend_withReceiver r s data h
  | sndRx data => exact execSndRx_withReceiver r s data h
  | sndTimeout => exact execSndTimeout_withReceiver r s h
  | sndReady => cases h; rfl
  | sndShutdown => cases h; rfl
  | _ => exact absurd hi Bool.false_ne_true

end

/-- A command of the Receiver does not read the Sender's part, and carries it along. -/
theorem exec_withSender (q : SenderPart) (s : State) {i : Instr} {t : State} (hi : isReceiverCommand i = true)
    (h : exec i s = .next t) : exec i (s.withSender q) = .next (t.withSender q) := by
  cases i with
  | rcvRx data =>
    have hin : (s.withSender q).inboundR data = s.inboundR data := rfl
    cases h
    rw [exec, execRcvRx, hin]
    cases s.inboundR data with
    | dropped fl => rfl
    | arrived p fl => simp only [apply_ite (State.withSender q)]; rfl
  | _ => exact absurd hi Bool.false_ne_true

/-! ### What an event of each unit writes -/

theorem tick_frame (s : State) : s.tick = s.withSender s.tick.sender := by
  obtain ⟨-, ht⟩ | ⟨-, -, ht⟩ | ⟨-, -, ht⟩ := tick_cases s <;> rw [ht] <;> rfl

theorem expire_frame (s : State) : s.expire = s.withSender s.expire.sender := by
  obtain ⟨-, he⟩ | ⟨-, -, he⟩ | ⟨-, -, -, -, he⟩ := expire_cases s <;> rw [he] <;> rfl

/-- A command of the Sender writes its part, the command port and the response register only. -/
theorem CommandEffect.sender_frame {i : Instr} {s t : State} (h : CommandEffect s i t)
    (hi : isSenderCommand i = true) : t = (s.withSender t.sender).withPort t.port t.resp := by
  cases h with
  | drewR => exact absurd hi Bool.false_ne_true
  | accepted => exact absurd hi Bool.false_ne_true
  | reAcked => exact absurd hi Bool.false_ne_true
  | _ => rfl

/-- A command of the Receiver writes its part, the command port and the response register only. -/
theorem CommandEffect.receiver_frame {i : Instr} {s t : State} (h : CommandEffect s i t)
    (hi : isReceiverCommand i = true) : t = (s.withReceiver t.receiver).withPort t.port t.resp := by
  cases h with
  | held => rfl
  | answered => rfl
  | drewR => rfl
  | accepted => rfl
  | reAcked => rfl
  | _ => exact absurd hi Bool.false_ne_true

/-! ### An event on a free port -/

/-- Every command gives a next state (60_exceptions.md R164). -/
theorem exec_next (i : Instr) (s : State) : ∃ t, exec i s = .next t := by
  cases i with
  | enc seqCode ackCode isAck data => simp only [exec, execEnc]; split <;> exact ⟨_, rfl⟩
  | _ => exact ⟨_, rfl⟩

theorem offer_of_next {i : Instr} {s t : State} (h : exec i (s.withPort (some (encode i)) none) = .next t) :
    offer i s = (t.withPort none none, t.resp) := by
  rw [State.withPort] at h
  simp only [offer, h, State.withPort]

/-- A Sender event does not see the Receiver's part: the same event happens, held or not, with the same response. -/
theorem occur_withReceiver {a : UnitEvent} (ha : a.isSender = true) (r : ReceiverPart) (s : State) :
    a.occur (s.withReceiver r) = Prod.map (State.withReceiver r) id (a.occur s) := by
  cases a with
  | command i =>
    obtain ⟨t, ht⟩ := exec_next i (s.withPort (some (encode i)) none)
    simp only [UnitEvent.occur]
    rw [offer_of_next ht, offer_of_next (exec_withReceiver r _ ha ht)]
    rfl
  | tick => exact congrArg (·, none) (tick_withReceiver r s)
  | expire => exact congrArg (·, none) (expire_withReceiver r s)
  | takeTxS => rfl
  | takeTxR => exact absurd ha Bool.false_ne_true
  | takeDeliver => exact absurd ha Bool.false_ne_true

/-- A Receiver event does not see the Sender's part. -/
theorem occur_withSender {b : UnitEvent} (hb : b.isReceiver = true) (q : SenderPart) (s : State) :
    b.occur (s.withSender q) = Prod.map (State.withSender q) id (b.occur s) := by
  cases b with
  | command i =>
    obtain ⟨t, ht⟩ := exec_next i (s.withPort (some (encode i)) none)
    simp only [UnitEvent.occur]
    rw [offer_of_next ht, offer_of_next (exec_withSender q _ hb ht)]
    rfl
  | takeTxR => rfl
  | takeDeliver => rfl
  | _ => exact absurd hb Bool.false_ne_true

section
variable {s : State} (hport : s.port = none) (hresp : s.resp = none)
include hport hresp

theorem State.withPort_of_free : s.withPort none none = s := by
  rw [State.withPort, ← hport, ← hresp]

theorem occur_sender_frame {a : UnitEvent} (ha : a.isSender = true) :
    (a.occur s).1 = s.withSender (a.occur s).1.sender := by
  cases a with
  | command i =>
    obtain ⟨t, ht⟩ := exec_next i (s.withPort (some (encode i)) none)
    have hframe := congrArg (State.withPort none none) ((exec_effect ht).sender_frame ha)
    simp only [UnitEvent.occur, offer_of_next ht]
    calc t.withPort none none
        = (s.withPort none none).withSender t.sender := hframe
      _ = s.withSender t.sender := by rw [State.withPort_of_free hport hresp]
  | tick => exact tick_frame s
  | expire => exact expire_frame s
  | takeTxS => rfl
  | takeTxR => exact absurd ha Bool.false_ne_true
  | takeDeliver => exact absurd ha Bool.false_ne_true

theorem occur_receiver_frame {b : UnitEvent} (hb : b.isReceiver = true) :
    (b.occur s).1 = s.withReceiver (b.occur s).1.receiver := by
  cases b with
  | command i =>
    obtain ⟨t, ht⟩ := exec_next i (s.withPort (some (encode i)) none)
    have hframe := congrArg (State.withPort none none) ((exec_effect ht).receiver_frame hb)
    simp only [UnitEvent.occur, offer_of_next ht]
    calc t.withPort none none
        = (s.withPort none none).withReceiver t.receiver := hframe
      _ = s.withReceiver t.receiver := by rw [State.withPort_of_free hport hresp]
  | takeTxR => rfl
  | takeDeliver => rfl
  | _ => exact absurd hb Bool.false_ne_true

end

/-- Settles O60: each event only replaces its own unit's part of the state, which the other event does not read, so
the second event happens as it would have first. -/
theorem senderAndReceiverEventsCommute : Obligations.SenderAndReceiverEventsCommute := by
  unfold Obligations.SenderAndReceiverEventsCommute
  intro a b s ha hb hport hresp
  have hS := occur_sender_frame hport hresp ha
  have hR := occur_receiver_frame hport hresp hb
  have hSR : b.occur (a.occur s).1 = Prod.map (State.withSender (a.occur s).1.sender) id (b.occur s) :=
    (congrArg b.occur hS).trans (occur_withSender hb _ s)
  have hRS : a.occur (b.occur s).1 = Prod.map (State.withReceiver (b.occur s).1.receiver) id (a.occur s) :=
    (congrArg a.occur hR).trans (occur_withReceiver ha _ s)
  refine ⟨?_, by rw [hSR]; rfl, by rw [hRS]; rfl⟩
  calc (b.occur (a.occur s).1).1
      = (b.occur s).1.withSender (a.occur s).1.sender := by rw [hSR]; rfl
    _ = (s.withReceiver (b.occur s).1.receiver).withSender (a.occur s).1.sender := by rw [← hR]
    _ = (s.withSender (a.occur s).1.sender).withReceiver (b.occur s).1.receiver :=
        (State.withSender_withReceiver _ _ s).symm
    _ = (a.occur s).1.withReceiver (b.occur s).1.receiver := by rw [← hS]
    _ = (a.occur (b.occur s).1).1 := by rw [hRS]; rfl

end Sys2Proof.Machine
end

section
/-! The statements about the encoding of a command (30_encoding.md R80 to R93): each opcode's fields are read back
from the tuple and written into it again, and what the decoder does with a tuple, check by check. -/

namespace Sys2Proof

/-! ### The opcode map (R89) -/

/-- The opcode value of a command. -/
def Opcode.byte : Opcode → BitVec 8
  | .enc => 0x01#8
  | .dec => 0x02#8
  | .dig => 0x03#8
  | .vfy => 0x04#8
  | .sndSend => 0x10#8
  | .sndRx => 0x11#8
  | .sndTimeout => 0x12#8
  | .sndReady => 0x13#8
  | .sndShutdown => 0x14#8
  | .rcvRx => 0x20#8
  | .csrRd => 0x30#8

/-- The opcode that spells a command. -/
def Instr.opcode : Instr → Opcode
  | .enc _ _ _ _ => .enc
  | .dec _ => .dec
  | .dig _ => .dig
  | .vfy _ _ => .vfy
  | .sndSend _ => .sndSend
  | .sndRx _ => .sndRx
  | .sndTimeout => .sndTimeout
  | .sndReady => .sndReady
  | .sndShutdown => .sndShutdown
  | .rcvRx _ => .rcvRx
  | .csrRd _ => .csrRd

theorem opcodeOf_byte (op : Opcode) : opcodeOf op.byte = some op := by cases op <;> rfl

/-- One row of the opcode map: if this row does not give the opcode, a later one does. -/
theorem eq_byte_of_row {b v : BitVec 8} {o op : Opcode} {rest : Option Opcode} (hv : v = o.byte)
    (hrest : rest = some op → b = op.byte) (h : (if b = v then some o else rest) = some op) : b = op.byte := by
  split at h
  · next hb => exact Option.some.inj h ▸ hb.trans hv
  · exact hrest h

theorem eq_byte_of_opcodeOf {b : BitVec 8} {op : Opcode} (h : opcodeOf b = some op) : b = op.byte := by
  unfold opcodeOf at h
  revert h
  iterate 11 refine eq_byte_of_row rfl ?_
  exact nofun

theorem encode_opc (i : Instr) : (encode i).opc = i.opcode.byte := by cases i <;> rfl

/-! ### The fields of the argument (R82, R84) -/

theorem encArg_seqCode (a b : BitVec 2) (k : Bool) : (encArg a b k).extractLsb' 0 2 = a := by
  revert a b k
  decide

theorem encArg_ackCode (a b : BitVec 2) (k : Bool) : (encArg a b k).extractLsb' 2 2 = b := by
  revert a b k
  decide

theorem encArg_isAck (a b : BitVec 2) (k : Bool) : (encArg a b k).getLsbD 4 = k := by
  revert a b k
  decide

theorem encArg_toNat (a b : BitVec 2) (k : Bool) :
    (encArg a b k).toNat = a.toNat + 4 * b.toNat + 16 * k.toNat := by
  revert a b k
  decide

theorem and_low_bits_toNat (w : Word) {n : Nat} (hn : n ≤ 32) :
    (w &&& BitVec.ofNat 32 (2 ^ n - 1)).toNat = w.toNat % 2 ^ n := by
  have hlt : 2 ^ n - 1 < 2 ^ 32 :=
    Nat.lt_of_lt_of_le (Nat.sub_lt (Nat.two_pow_pos n) Nat.one_pos) (Nat.pow_le_pow_right Nat.two_pos hn)
  rw [BitVec.toNat_and, BitVec.toNat_ofNat, Nat.mod_eq_of_lt hlt, Nat.and_two_pow_sub_one_eq_mod]

theorem and_usedArg_enc_toNat (w : Word) : (w &&& usedArg .enc).toNat = w.toNat % 32 :=
  and_low_bits_toNat w (n := 5) (by decide)

theorem and_usedArg_csrRd_toNat (w : Word) : (w &&& usedArg .csrRd).toNat = w.toNat % 256 :=
  and_low_bits_toNat w (n := 8) (by decide)

/-- The three fields of `ENC` make up all of its argument but the reserved bits. -/
theorem encArg_fields (w : Word) :
    encArg (w.extractLsb' 0 2) (w.extractLsb' 2 2) (w.getLsbD 4) = w &&& usedArg .enc := by
  apply BitVec.eq_of_toNat_eq
  rw [encArg_toNat, and_usedArg_enc_toNat, BitVec.extractLsb'_toNat, BitVec.extractLsb'_toNat, BitVec.getLsbD,
    Nat.toNat_testBit, Nat.shiftRight_eq_div_pow, Nat.shiftRight_eq_div_pow]
  omega

theorem csrField_setWidth (w : Word) : (w.extractLsb' 0 8).setWidth 32 = w &&& usedArg .csrRd := by
  apply BitVec.eq_of_toNat_eq
  rw [and_usedArg_csrRd_toNat, BitVec.toNat_setWidth, BitVec.extractLsb'_toNat, Nat.shiftRight_zero]
  omega

theorem setWidth_csrField (n : BitVec 8) : (n.setWidth 32).extractLsb' 0 8 = n := by
  apply BitVec.eq_of_toNat_eq
  rw [BitVec.extractLsb'_toNat, BitVec.toNat_setWidth, Nat.shiftRight_zero]
  omega

/-! ### Building and encoding are inverse -/

theorem buildInstr_encode (i : Instr) : buildInstr i.opcode (encode i).arg (encode i).data = i := by
  cases i with
  | enc seqCode ackCode isAck data =>
    simp only [Instr.opcode, encode, buildInstr, encArg_seqCode, encArg_ackCode, encArg_isAck]
  | csrRd n => simp only [Instr.opcode, encode, buildInstr, setWidth_csrField]
  | _ => rfl

/-- Encoding what an opcode builds drops the reserved bits of `ARG` and the data of formats N and A. -/
theorem encode_buildInstr (op : Opcode) (arg : Word) (data : Bytes) :
    encode (buildInstr op arg data)
      = { opc := op.byte, arg := arg &&& usedArg op, data := if takesData (formatOf op) then data else [] } := by
  cases op with
  | enc => simp only [buildInstr, encode, encArg_fields]; rfl
  | vfy =>
    have hall : arg &&& usedArg .vfy = arg := BitVec.and_allOnes
    simp only [buildInstr, encode, hall]; rfl
  | csrRd => simp only [buildInstr, encode, csrField_setWidth]; rfl
  | _ => simp only [buildInstr, encode, usedArg, BitVec.and_zero]; rfl

/-! ### What the decoder does (R90 to R93) -/

/-- No reserved bit is set exactly when masking the reserved bits changes nothing. -/
theorem and_not_eq_zero_iff (w m : Word) : w &&& ~~~ m = 0#32 ↔ w &&& m = w := by
  constructor
  · intro h
    calc w &&& m = (w &&& m) ||| (w &&& ~~~ m) := by rw [h, BitVec.or_zero]
      _ = w := by rw [← BitVec.and_or_distrib_left, BitVec.or_not_self, BitVec.and_allOnes]
  · intro h
    rw [← h, BitVec.and_assoc, BitVec.and_not_self]
    exact BitVec.and_zero

/-- Checks 1 and 2 of R90 for an assigned opcode, in their order. -/
theorem decode_of_opcodeOf {c : Command} {op : Opcode} (hop : opcodeOf c.opc = some op) :
    decode c = if c.arg &&& usedArg op ≠ c.arg then .reject .reservedArg
      else if takesData (formatOf op) = false ∧ c.data ≠ [] then .reject .strayData
      else .instr (buildInstr op c.arg c.data) := by
  simp [decode, hop, and_not_eq_zero_iff]

theorem decode_eq_instr_iff (c : Command) (i : Instr) :
    decode c = .instr i ↔ ∃ op, opcodeOf c.opc = some op ∧ c.arg &&& usedArg op = c.arg
      ∧ (takesData (formatOf op) = false → c.data = []) ∧ buildInstr op c.arg c.data = i := by
  cases hop : opcodeOf c.opc with
  | none => simp [decode, hop]
  | some op =>
    rw [decode_of_opcodeOf hop]
    split
    · next hres => simp [hres]
    · next hres =>
      split
      · next hstray => simp [hstray]
      · next hstray => simp_all

/-- A reserved bit, or data where the format has none, is refused with `ST_BAD_ARG`. -/
theorem decode_rejects_badArg {c : Command} {op : Opcode} (hop : opcodeOf c.opc = some op)
    (h : c.arg &&& usedArg op ≠ c.arg ∨ (takesData (formatOf op) = false ∧ c.data ≠ [])) :
    ∃ r, decode c = .reject r ∧ Machine.rejectStatus r = .badArg := by
  rw [decode_of_opcodeOf hop]
  split
  · exact ⟨_, rfl, rfl⟩
  · next hres =>
    rw [if_pos (h.resolve_left hres)]
    exact ⟨_, rfl, rfl⟩

/-! ### The round trips -/

theorem encode_eq (i : Instr) :
    encode i = { opc := i.opcode.byte, arg := (encode i).arg &&& usedArg i.opcode,
                 data := if takesData (formatOf i.opcode) then (encode i).data else [] } := by
  rw [← encode_buildInstr, buildInstr_encode]

theorem decode_encode (i : Instr) : decode (encode i) = .instr i := by
  refine (decode_eq_instr_iff _ _).mpr ⟨i.opcode, ?_, (congrArg Command.arg (encode_eq i)).symm, fun hfmt => ?_,
    buildInstr_encode i⟩
  · rw [encode_opc, opcodeOf_byte]
  · have hdata := congrArg Command.data (encode_eq i)
    rwa [hfmt, if_neg Bool.false_ne_true] at hdata

theorem encode_wellFormed {i : Instr} (h : i.wellFormed = true) : (encode i).wellFormed = true := by
  cases i with
  | enc seqCode ackCode isAck data =>
    simp only [Instr.wellFormed, Bool.and_eq_true] at h
    exact h.2
  | sndTimeout => rfl
  | sndReady => rfl
  | sndShutdown => rfl
  | csrRd n => rfl
  | _ => exact h

theorem encode_of_decode {c : Command} {i : Instr} (h : decode c = .instr i) : encode i = c := by
  obtain ⟨op, hop, harg, hdata, rfl⟩ := (decode_eq_instr_iff c i).mp h
  rw [encode_buildInstr, harg, ← eq_byte_of_opcodeOf hop]
  split
  · rfl
  · next hfmt => rw [← hdata (Bool.eq_false_iff.mpr hfmt)]

/-- Settles O1: every opcode's fields are read back, and the encoding has no reserved bit and no stray data. -/
theorem decodeAfterEncodeGivesTheInstruction : Obligations.DecodeAfterEncodeGivesTheInstruction := by
  unfold Obligations.DecodeAfterEncodeGivesTheInstruction
  exact fun i h => ⟨decode_encode i, encode_wellFormed h⟩

/-- Settles O2: a tuple that decodes has no bit and no data that the encoding of its command would drop. -/
theorem encodeAfterDecodeGivesTheCommand : Obligations.EncodeAfterDecodeGivesTheCommand := by
  unfold Obligations.EncodeAfterDecodeGivesTheCommand
  exact fun _ _ h => encode_of_decode h

end Sys2Proof
end

section
/-! The statements about the wire frame (30_encoding.md R69 to R79): each field's parser accepts exactly the texts of
its grammar, so the parser accepts exactly the frames of the grammar; and how long an encoded frame is. -/

namespace Sys2Proof.Machine

/-! ### Numbers (40_codec.md R109, R111) -/

theorem ofNat_toInt {n : Nat} (h : n ≤ 2147483647) : (BitVec.ofNat 32 n).toInt = n := by
  rw [BitVec.toInt_eq_toNat_of_lt] <;> rw [BitVec.toNat_ofNat] <;> omega

/-- The lower bound is included: `-2147483648` is its own negation in 32 bits. -/
theorem neg_ofNat_toInt {n : Nat} (h : n ≤ 2147483648) : (-(BitVec.ofNat 32 n)).toInt = -(n : Int) := by
  rw [BitVec.toInt_eq_toNat_cond, BitVec.toNat_neg, BitVec.toNat_ofNat]
  split <;> omega

/-- What the parsers check of a number, as the grammar says it. -/
theorem isDigits_and_le_iff (g : Bytes) (limit : Nat) :
    (isDigits g && decide (decimalValue g ≤ limit)) = true ↔ DigitString g ∧ decimalValue g ≤ limit := by
  rw [Bool.and_eq_true, isDigits_iff, decide_eq_true_eq]

/-! ### The texts of the fields (30_encoding.md R70) -/

theorem DigitString.ne_nil {g : Bytes} (h : DigitString g) : g ≠ [] := by
  rintro rfl
  obtain ⟨hpos, -⟩ := h
  exact absurd hpos (by decide)

theorem DigitString.isDigit_of_mem {g : Bytes} (h : DigitString g) {b : Byte} (hb : b ∈ g) : isDigit b = true := by
  obtain ⟨-, -, hall⟩ := h
  exact (isDigit_iff b).mpr (hall b hb)

theorem DigitString.ne_sep {g : Bytes} (h : DigitString g) : ∀ b ∈ g, b ≠ sepByte :=
  fun _ hb => isDigit_ne_sep _ (h.isDigit_of_mem hb)

/-- A sign is no digit, so a text reads with a sign or without one, never both ways. -/
theorem DigitString.ne_minus_cons {g r : Bytes} (h : DigitString g) : g ≠ minusByte :: r := by
  rintro rfl
  exact absurd (h.isDigit_of_mem (List.mem_cons_self ..)) (by decide)

theorem not_intField_nil (v : Int) : ¬ IntField [] v := by
  rintro ⟨neg, g, hf, hg, -⟩
  exact hg.ne_nil (List.append_eq_nil_iff.mp hf.symm).2

theorem intField_minus_cons_iff (g : Bytes) (v : Int) :
    IntField (minusByte :: g) v ↔ DigitString g ∧ v = -(decimalValue g : Int) ∧ decimalValue g ≤ 2147483648 := by
  constructor
  · rintro ⟨_ | _, g', hf, hg, hv, hmin, -⟩
    · exact absurd hf.symm hg.ne_minus_cons
    · obtain rfl : g = g' := (List.cons.inj hf).2
      exact ⟨hg, hv, by simp only [if_true] at hv; omega⟩
  · rintro ⟨hg, hv, hle⟩
    exact ⟨true, g, rfl, hg, hv, by omega, by omega⟩

theorem intField_iff_of_no_sign {b : Byte} (hb : b ≠ minusByte) (g : Bytes) (v : Int) :
    IntField (b :: g) v
      ↔ DigitString (b :: g) ∧ v = (decimalValue (b :: g) : Int) ∧ decimalValue (b :: g) ≤ 2147483647 := by
  constructor
  · rintro ⟨_ | _, g', hf, hg, hv, -, hmax⟩
    · obtain rfl : b :: g = g' := hf
      exact ⟨hg, hv, by simp only [Bool.false_eq_true, if_false] at hv; omega⟩
    · exact absurd (List.cons.inj hf).1 hb
  · rintro ⟨hg, hv, hle⟩
    exact ⟨false, b :: g, rfl, hg, hv, by omega, by omega⟩

theorem IntField.ne_sep {f : Bytes} {v : Int} (h : IntField f v) : ∀ b ∈ f, b ≠ sepByte := by
  obtain ⟨neg, g, rfl, hg, -⟩ := h
  intro b hb
  obtain hb | hb := List.mem_append.mp hb
  · cases neg
    · exact absurd hb List.not_mem_nil
    · obtain rfl := List.mem_singleton.mp hb
      decide
  · exact hg.ne_sep b hb

theorem FlagField.ne_sep {f : Bytes} {k : Bool} (h : FlagField f k) : ∀ b ∈ f, b ≠ sepByte := by
  subst h
  intro b hb
  cases k <;>
    · obtain rfl := List.mem_singleton.mp hb
      decide

/-! ### Each parser accepts exactly its field -/

theorem parseInt_eq_some_iff (f : Bytes) (q : Word) : parseInt f = some q ↔ IntField f q.toInt := by
  cases f with
  | nil => simp [parseInt, not_intField_nil]
  | cons b g =>
    by_cases hb : b = minusByte
    · subst hb
      simp only [parseInt, if_true, Option.ite_none_right_eq_some, digitsValue_eq_decimalValue,
        isDigits_and_le_iff, Option.some.injEq, intField_minus_cons_iff]
      constructor
      · rintro ⟨⟨hg, hle⟩, rfl⟩
        exact ⟨hg, neg_ofNat_toInt hle, hle⟩
      · rintro ⟨hg, hv, hle⟩
        exact ⟨⟨hg, hle⟩, BitVec.eq_of_toInt_eq ((neg_ofNat_toInt hle).trans hv.symm)⟩
    · simp only [parseInt, if_neg hb, Option.ite_none_right_eq_some, digitsValue_eq_decimalValue,
        isDigits_and_le_iff, Option.some.injEq, intField_iff_of_no_sign hb]
      constructor
      · rintro ⟨⟨hg, hle⟩, rfl⟩
        exact ⟨hg, ofNat_toInt hle, hle⟩
      · rintro ⟨hg, hv, hle⟩
        exact ⟨⟨hg, hle⟩, BitVec.eq_of_toInt_eq ((ofNat_toInt hle).trans hv.symm)⟩

theorem parseFlag_eq_some_iff (f : Bytes) (k : Bool) : parseFlag f = some k ↔ FlagField f k := by
  unfold parseFlag FlagField
  split
  · next h0 => cases k <;> simp [h0]
  · next h0 =>
    split
    · next h1 => cases k <;> simp [h1]
    · next h1 => cases k <;> simp [h0, h1]

theorem parseDigest_eq_some_iff (f : Bytes) (d : Word) : parseDigest f = some d ↔ DigestField f d := by
  simp only [parseDigest, Option.ite_none_right_eq_some, digitsValue_eq_decimalValue, isDigits_and_le_iff,
    Option.some.injEq, DigestField]
  constructor
  · rintro ⟨⟨hf, hle⟩, rfl⟩
    exact ⟨hf, by rw [BitVec.toNat_ofNat]; omega⟩
  · rintro ⟨hf, hv⟩
    exact ⟨⟨hf, by omega⟩, by rw [hv, BitVec.ofNat_toNat, BitVec.setWidth_eq]⟩

/-! ### The parser accepts exactly the frames -/

theorem parseFrame_eq_some_iff (frame : Bytes) (p : Packet) :
    parseFrame frame = some p ↔ ∃ x, splitFrame frame = some x ∧ parseInt x.f1 = some p.seq
      ∧ parseInt x.f2 = some p.ack ∧ parseFlag x.f3 = some p.isAck ∧ parseDigest x.f4 = some p.digest
      ∧ x.payload = p.payload ∧ p.isCorrupt = !verifyDigest p.payload p.digest := by
  unfold parseFrame
  constructor
  · intro h
    split at h
    · cases h
    · next x hx =>
      split at h
      · next h1 h2 h3 h4 =>
        cases h
        exact ⟨x, hx, h1, h2, h3, h4, rfl, rfl⟩
      · cases h
  · rintro ⟨x, hx, h1, h2, h3, h4, h5, h6⟩
    simp only [hx, h1, h2, h3, h4, h5, ← h6]

/-- Settles O19: the header fields of the grammar hold no separator, so a frame splits into them; each is then read
by its own parser. -/
theorem parserAcceptsExactlyTheGrammar : Obligations.ParserAcceptsExactlyTheGrammar := by
  unfold Obligations.ParserAcceptsExactlyTheGrammar
  intro frame p
  simp only [parseFrame_eq_some_iff, parseInt_eq_some_iff, parseFlag_eq_some_iff, parseDigest_eq_some_iff]
  constructor
  · rintro ⟨x, hx, hseq, hack, hflag, hdig, hpay, hcor⟩
    exact ⟨⟨x.f1, x.f2, x.f3, x.f4, hpay ▸ splitFrame_eq_some frame x hx, hseq, hack, hflag, hdig⟩, hcor⟩
  · rintro ⟨⟨f1, f2, f3, f4, rfl, hseq, hack, hflag, hdig, hval⟩, hcor⟩
    exact ⟨_, splitFrame_append f1 f2 f3 f4 p.payload hseq.ne_sep hack.ne_sep hflag.ne_sep hdig.ne_sep,
      hseq, hack, hflag, ⟨hdig, hval⟩, rfl, hcor⟩

/-! ### The length of a frame (30_encoding.md R76, R78) -/

theorem encodeFrame_length (seq ack : Word) (isAck : Bool) (p : Bytes) :
    (encodeFrame seq ack isAck p).length
      = (sdec seq).length + (sdec ack).length + (udec (crc32 p)).length + p.length + 5 := by
  simp only [encodeFrame, List.length_append, List.length_cons, flagText_length]
  omega

/-- The text of a value of the Codec's domain is `0`, `1` or `-1`. -/
theorem sdec_length_bounds {v : Word} (h : v ∈ [0#32, 1#32, 0xFFFFFFFF#32]) :
    1 ≤ (sdec v).length ∧ (sdec v).length ≤ 2 := by
  simp only [List.mem_cons, List.not_mem_nil, or_false] at h
  obtain rfl | rfl | rfl := h <;> decide

/-- Settles O21: the two numbers take 1 or 2 bytes each, the digest 1 to 10, the flag and the separators 5. -/
theorem encodedFrameFits : Obligations.EncodedFrameFits := by
  unfold Obligations.EncodedFrameFits
  intro cfg seq ack isAck p hseq hack
  obtain ⟨hseqMin, hseqMax⟩ := sdec_length_bounds hseq
  obtain ⟨hackMin, hackMax⟩ := sdec_length_bounds hack
  obtain ⟨hdigMin, hdigMax⟩ := digitsOf_length 10 (crc32 p).toNat (by decide)
  rw [encodeFrame_length, maxPayload, udec]
  omega

end Sys2Proof.Machine
end

section
/-! The statements about a refused command (30_encoding.md R85, R90 to R93) and about the sample command words and
the flags byte: each check that refuses a command as a lemma, then what any command can answer. -/

namespace Sys2Proof.Machine

/-! ### The checks of the check order that refuse (R90) -/

section
variable {s : State} {data : Bytes}

theorem acceptCommand_of_reject {c : Command} {r : Reject} (hport : s.port = some c) (hdec : decode c = .reject r) :
    acceptCommand s = .next (s.refuse (rejectStatus r)) := by
  simp [acceptCommand, fetch, hport, hdec]

theorem acceptCommand_badArg {c : Command} {op : Opcode} (hport : s.port = some c) (hop : opcodeOf c.opc = some op)
    (h : c.arg &&& usedArg op ≠ c.arg ∨ (takesData (formatOf op) = false ∧ c.data ≠ [])) :
    acceptCommand s = .next (s.refuse .badArg) := by
  obtain ⟨r, hdec, hst⟩ := decode_rejects_badArg hop h
  rw [acceptCommand_of_reject hport hdec, hst]

/-- The reserved value code of `ENC` is refused whatever the length of the data (log 14). -/
theorem execEnc_reserved {seqCode ackCode : BitVec 2} (isAck : Bool) (h : seqCode = 0b10#2 ∨ ackCode = 0b10#2) :
    execEnc seqCode ackCode isAck data s = .next (s.refuse .badArg) := by
  obtain rfl | rfl := h
  · rfl
  · cases hseq : codeValue seqCode <;> simp only [execEnc, hseq, codeValue_reserved]

theorem execEnc_tooLong {seqCode ackCode : BitVec 2} (isAck : Bool) (hseq : seqCode ≠ 0b10#2)
    (hack : ackCode ≠ 0b10#2) (h : maxPayload s.cfg < data.length) :
    execEnc seqCode ackCode isAck data s = .next (s.refuse .tooLong) := by
  simp only [execEnc, codeValue_eq_some _ hseq, codeValue_eq_some _ hack, (payloadTooLong_iff _ _).mpr h, if_true]

theorem execDec_tooLong (h : s.cfg.maxFrame < data.length) : execDec data s = .next (s.refuse .tooLong) := by
  simp only [execDec, (frameTooLong_iff _ _).mpr h, if_true]

theorem execDig_tooLong (h : maxPayload s.cfg < data.length) : execDig data s = .next (s.refuse .tooLong) := by
  simp only [execDig, (payloadTooLong_iff _ _).mpr h, if_true]

theorem execVfy_tooLong (digest : Word) (h : maxPayload s.cfg < data.length) :
    execVfy digest data s = .next (s.refuse .tooLong) := by
  simp only [execVfy, (payloadTooLong_iff _ _).mpr h, if_true]

theorem execSndSend_tooLong (h : maxPayload s.cfg < data.length) :
    execSndSend data s = .next (s.refuse .tooLong) := by
  simp only [execSndSend, (payloadTooLong_iff _ _).mpr h, if_true]

end

/-- Settles O14: the length check of each command. -/
theorem tooLongDataIsRefused : Obligations.TooLongDataIsRefused := by
  unfold Obligations.TooLongDataIsRefused
  intro s data
  exact ⟨execDec_tooLong, fun h => ⟨execDig_tooLong h, fun d => execVfy_tooLong d h, execSndSend_tooLong h,
    fun _ _ k hseq hack => execEnc_tooLong k hseq hack h⟩⟩

/-! ### Reserved arguments and stray data (R92, R93) -/

theorem opcodeOf_formatD {b : BitVec 8} (h : b ∈ [0x02#8, 0x03#8, 0x10#8, 0x11#8, 0x20#8]) :
    ∃ op, opcodeOf b = some op ∧ usedArg op = 0#32 := by
  simp only [List.mem_cons, List.not_mem_nil, or_false] at h
  obtain rfl | rfl | rfl | rfl | rfl := h
  exacts [⟨.dec, rfl, rfl⟩, ⟨.dig, rfl, rfl⟩, ⟨.sndSend, rfl, rfl⟩, ⟨.sndRx, rfl, rfl⟩, ⟨.rcvRx, rfl, rfl⟩]

theorem opcodeOf_formatN {b : BitVec 8} (h : b ∈ [0x12#8, 0x13#8, 0x14#8]) :
    ∃ op, opcodeOf b = some op ∧ usedArg op = 0#32 ∧ takesData (formatOf op) = false := by
  simp only [List.mem_cons, List.not_mem_nil, or_false] at h
  obtain rfl | rfl | rfl := h
  exacts [⟨.sndTimeout, rfl, rfl, rfl⟩, ⟨.sndReady, rfl, rfl, rfl⟩, ⟨.sndShutdown, rfl, rfl, rfl⟩]

theorem and_usedArg_ne_of_unused {op : Opcode} {w : Word} (hop : usedArg op = 0#32) (hw : w ≠ 0#32) :
    w &&& usedArg op ≠ w := by
  rw [hop, BitVec.and_zero]
  exact hw.symm

theorem and_usedArg_enc_ne {w : Word} (hw : w.toNat / 32 ≠ 0) : w &&& usedArg .enc ≠ w := by
  intro h
  have hmod := and_usedArg_enc_toNat w
  rw [h] at hmod
  omega

theorem and_usedArg_csrRd_ne {w : Word} (hw : w.toNat / 256 ≠ 0) : w &&& usedArg .csrRd ≠ w := by
  intro h
  have hmod := and_usedArg_csrRd_toNat w
  rw [h] at hmod
  omega

/-- `ENC` is refused by the decoder for a reserved bit, and by the command itself for a reserved value code. -/
theorem acceptCommand_enc_badArg {s : State} {c : Command} (hport : s.port = some c) (hop : c.opc = 0x01#8)
    (h : c.arg.toNat / 32 ≠ 0 ∨ c.arg.extractLsb' 0 2 = 0b10#2 ∨ c.arg.extractLsb' 2 2 = 0b10#2) :
    acceptCommand s = .next (s.refuse .badArg) := by
  have hopc : opcodeOf c.opc = some .enc := hop ▸ opcodeOf_byte .enc
  by_cases harg : c.arg &&& usedArg .enc = c.arg
  · have hdec : decode c = .instr (buildInstr .enc c.arg c.data) :=
      (decode_eq_instr_iff _ _).mpr ⟨_, hopc, harg, nofun, rfl⟩
    rw [acceptCommand_of_decode hport hdec]
    exact execEnc_reserved _ (h.resolve_left fun hres => and_usedArg_enc_ne hres harg)
  · exact acceptCommand_badArg hport hopc (.inl harg)

/-- Settles O5, format by format. -/
theorem reservedArgumentOrStrayDataAnswersBadArg : Obligations.ReservedArgumentOrStrayDataAnswersBadArg := by
  unfold Obligations.ReservedArgumentOrStrayDataAnswersBadArg
  intro s c hport h
  obtain ⟨hop, h⟩ | ⟨hop, harg⟩ | ⟨hop, h⟩ | ⟨hop, h⟩ := h
  · exact acceptCommand_enc_badArg hport hop h
  · obtain ⟨op, hopc, hused⟩ := opcodeOf_formatD hop
    exact acceptCommand_badArg hport hopc (.inl (and_usedArg_ne_of_unused hused harg))
  · obtain ⟨op, hopc, hused, hfmt⟩ := opcodeOf_formatN hop
    exact acceptCommand_badArg hport hopc (h.imp (and_usedArg_ne_of_unused hused) (⟨hfmt, ·⟩))
  · have hopc : opcodeOf c.opc = some .csrRd := hop ▸ opcodeOf_byte .csrRd
    exact acceptCommand_badArg hport hopc (h.imp and_usedArg_csrRd_ne (⟨rfl, ·⟩))

/-! ### What a command can answer (R85, R90) -/

/-- `CommandAnswer s t`: how a run of a command from `s` may end in `t`, by the response. -/
inductive CommandAnswer (s : State) : State → Prop
  /-- Not enabled: no response (20_memory.md R61). -/
  | held : CommandAnswer s s
  /-- The command happened and answers `ST_OK`. -/
  | done {t : State} {r : Response} (hresp : t.resp = some r) (hok : r.status = 0x00#8) : CommandAnswer s t
  /-- Refused by one of the checks of the check order. -/
  | refused (st : Status) (hst : st ∈ [.busy, .tooLong, .badArg, .shutdown, .badCsr]) :
      CommandAnswer s (s.refuse st)

/-- A command of the Codec that checks the length of its data and else answers `ST_OK`. -/
theorem CommandAnswer.lengthChecked {s : State} (check : Bool) {r : Response} (hok : r.status = 0x00#8) :
    CommandAnswer s (if check then s.refuse .tooLong else s.respond r) := by
  split
  · exact .refused _ (by decide)
  · exact .done (s.respond_resp r) hok

theorem execSndSend_answer {data : Bytes} {s t : State} (h : execSndSend data s = .next t) : CommandAnswer s t := by
  obtain rfl | ⟨rfl, -⟩ | ⟨rfl, -⟩ | ⟨rfl, -⟩ | ⟨rfl, -⟩ := execSndSend_cases data s t h
  · exact .refused _ (by decide)
  · exact .refused _ (by decide)
  · exact .refused _ (by decide)
  · exact .done (State.respond_resp _ _) rfl
  · exact .held

theorem execSndRx_answer {data : Bytes} {s t : State} (h : execSndRx data s = .next t) : CommandAnswer s t := by
  obtain ⟨rfl, -⟩ | ⟨r, rfl, hok⟩ | ⟨r, rfl, hok, -⟩ | ⟨r, rfl, hok, -⟩ | ⟨rfl, -⟩ := execSndRx_cases data s t h
  · exact .refused _ (by decide)
  · exact .done (State.respond_resp _ _) hok
  · exact .done (State.respond_resp _ _) hok
  · exact .done (State.respond_resp _ _) hok
  · exact .held

theorem execSndTimeout_answer {s t : State} (h : execSndTimeout s = .next t) : CommandAnswer s t := by
  obtain ⟨rfl, -⟩ | ⟨rfl, -⟩ | ⟨rfl, -⟩ | ⟨rfl, -⟩ := execSndTimeout_cases s t h
  · exact .refused _ (by decide)
  · exact .held
  · exact .done (State.respond_resp _ _) rfl
  · exact .done (State.respond_resp _ _) rfl

theorem execRcvRx_answer {data : Bytes} {s t : State} (h : execRcvRx data s = .next t) : CommandAnswer s t := by
  obtain ⟨r, rfl, hok⟩ | ⟨r, rfl, hok, -⟩ | ⟨r, rfl, hok, -⟩ | rfl := execRcvRx_cases data s t h
  · exact .done (State.respond_resp _ _) hok
  · exact .done (State.respond_resp _ _) hok
  · exact .done (State.respond_resp _ _) hok
  · exact .held

theorem exec_answer {i : Instr} {s t : State} (h : exec i s = .next t) : CommandAnswer s t := by
  cases i with
  | enc seqCode ackCode isAck data =>
    obtain ⟨rfl, -⟩ | ⟨rfl, -⟩ | rfl := execEnc_cases seqCode ackCode isAck data s t h
    · exact .refused _ (by decide)
    · exact .refused _ (by decide)
    · exact .done (State.respond_resp _ _) rfl
  | dec data => cases h; exact .lengthChecked _ rfl
  | dig data => cases h; exact .lengthChecked _ rfl
  | vfy digest data => cases h; exact .lengthChecked _ rfl
  | sndSend data => exact execSndSend_answer h
  | sndRx data => exact execSndRx_answer h
  | sndTimeout => exact execSndTimeout_answer h
  | sndReady => cases h; exact .done (State.respond_resp _ _) rfl
  | sndShutdown => cases h; exact .done (State.respond_resp _ _) rfl
  | rcvRx data => exact execRcvRx_answer h
  | csrRd csr =>
    cases h
    split
    · exact .done (State.respond_resp _ _) rfl
    · exact .refused _ (by decide)

theorem refusal_code_mem {st : Status} (h : st ∈ [.busy, .tooLong, .badArg, .shutdown, .badCsr]) :
    st.code ∈ [0x01#8, 0x02#8, 0x03#8, 0x04#8, 0x06#8] := by
  revert h
  cases st <;> decide

/-- Settles O52: a response with another status than `ST_OK` is the refusal's. -/
theorem refusedCommandChangesNothing : Obligations.RefusedCommandChangesNothing := by
  unfold Obligations.RefusedCommandChangesNothing
  intro i s t r hempty h hresp hstatus
  cases exec_answer h with
  | held => exact absurd (hempty.symm.trans hresp) (Option.some_ne_none r).symm
  | done hresp' hok => exact absurd (Option.some.inj (hresp.symm.trans hresp') ▸ hok) hstatus
  | refused st hst =>
    obtain rfl := Option.some.inj ((State.refuse_resp s st).symm.trans hresp)
    exact ⟨rfl, refusal_code_mem hst⟩

/-! ### Sample words and the flags byte (R80, R88) -/

/-- A word that is the command word of an encoded command, without data, decodes to that command. -/
theorem decodeTableWord_of_encode {nbits w : Nat} {i : Instr} (h : commandOfWord nbits w = encode i) :
    decodeTableWord nbits w = some i := by
  rw [decodeTableWord, h, decode_encode]

/-- Settles O3: each word but the last spells the encoding of its command, and opcode 0 is unassigned. -/
theorem sampleCommandWordsDecode : Obligations.SampleCommandWordsDecode := by
  unfold Obligations.SampleCommandWordsDecode
  refine ⟨decodeTableWord_of_encode ?_, decodeTableWord_of_encode ?_, decodeTableWord_of_encode ?_,
    decodeTableWord_of_encode ?_, decodeTableWord_of_encode ?_, decodeTableWord_of_encode ?_, ?_⟩
  all_goals decide

/-- Settles O23, for each of the 32 combinations of the five bits. -/
theorem flagsByteLayout : Obligations.FlagsByteLayout := by
  unfold Obligations.FlagsByteLayout
  decide

end Sys2Proof.Machine
end

section
/-! The statements about the Codec (40_codec.md R99 to R118): the step of the digest is injective, so one changed byte
changes the digest; the texts of an encoded frame's fields are in the grammar, so a frame parses back to its packet;
and what each of the four commands answers once its checks pass. -/

namespace Sys2Proof.Machine

/-! ### The digest (R101 to R104) -/

/-- The polynomial has bit 31 and the shifted register does not, so bit 31 tells whether the polynomial was added. -/
theorem crcShift_msb (c : Word) : (crcShift c).getLsbD 31 = c.getLsbD 0 := by
  unfold crcShift
  split
  · next hlow => simp [hlow]
  · next hlow => simpa using hlow

theorem crcShift_injective : Function.Injective crcShift := by
  intro c d h
  have hlow : c.getLsbD 0 = d.getLsbD 0 := by rw [← crcShift_msb, ← crcShift_msb, h]
  have hshift : c >>> 1 = d >>> 1 := by
    unfold crcShift at h
    rw [hlow] at h
    split at h
    · exact (BitVec.xor_left_inj _).mp h
    · exact h
  refine BitVec.eq_of_getLsbD_eq fun i _ => ?_
  cases i with
  | zero => exact hlow
  | succ i => simpa [Nat.add_comm] using congrArg (·.getLsbD i) hshift

theorem crcShifts_injective (k : Nat) : Function.Injective (crcShifts k) := by
  induction k with
  | zero => exact fun _ _ h => h
  | succ k ih => exact ih.comp crcShift_injective

theorem crcByte_register_injective (b : Byte) : Function.Injective (crcByte · b) :=
  fun _ _ h => (BitVec.xor_left_inj _).mp (crcShifts_injective 8 h)

theorem crcByte_byte_injective (c : Word) : Function.Injective (crcByte c) := by
  intro a b h
  have hwide : a.setWidth 32 = b.setWidth 32 := (BitVec.xor_right_inj _).mp (crcShifts_injective 8 h)
  simpa using congrArg (BitVec.setWidth 8) hwide

theorem foldl_crcByte_injective (p : Bytes) : Function.Injective (p.foldl crcByte) := by
  induction p with
  | nil => exact fun _ _ h => h
  | cons b p ih => exact ih.comp (crcByte_register_injective b)

theorem crc32_ne_of_byte_ne (pre post : Bytes) {a b : Byte} (h : a ≠ b) :
    crc32 (pre ++ a :: post) ≠ crc32 (pre ++ b :: post) := by
  intro heq
  have hfold := (BitVec.xor_left_inj _).mp heq
  simp only [List.foldl_append, List.foldl_cons] at hfold
  exact h (crcByte_byte_injective _ (foldl_crcByte_injective post hfold))

theorem crc32_set_ne {p : Bytes} {k : Nat} {b : Byte} (hk : k < p.length) (h : p[k]? ≠ some b) :
    crc32 p ≠ crc32 (p.set k b) := by
  rw [List.getElem?_eq_getElem hk, Ne, Option.some.injEq] at h
  calc crc32 p
    _ = crc32 (p.take k ++ p[k] :: p.drop (k + 1)) := by simp
    _ ≠ crc32 (p.take k ++ b :: p.drop (k + 1)) := crc32_ne_of_byte_ne _ _ h
    _ = crc32 (p.set k b) := by rw [List.set_eq_take_append_cons_drop, if_pos hk]

/-- What the statements call two strings of one length that differ in exactly one byte. -/
theorem exists_eq_set_of_agree_elsewhere {p q : Bytes} {k : Nat} (hlen : p.length = q.length) (hk : k < p.length)
    (hne : p[k]? ≠ q[k]?) (hrest : ∀ j, j ≠ k → p[j]? = q[j]?) : ∃ b, q = p.set k b ∧ p[k]? ≠ some b := by
  have hq : q[k]? = some q[k] := List.getElem?_eq_getElem (hlen ▸ hk)
  refine ⟨q[k], List.ext_getElem? fun j => ?_, hq ▸ hne⟩
  by_cases hj : j = k
  · subst hj
    rw [hq, List.getElem?_set_self hk]
  · rw [List.getElem?_set_ne (Ne.symm hj), hrest j hj]

/-- Settles O16: the register before the changed byte is the same, after it differs, and stays different. -/
theorem crcDetectsOneChangedByte : Obligations.CrcDetectsOneChangedByte := by
  unfold Obligations.CrcDetectsOneChangedByte
  intro p q k hlen hk hne hrest
  obtain ⟨b, rfl, hb⟩ := exists_eq_set_of_agree_elsewhere hlen hk hne hrest
  exact crc32_set_ne hk hb

/-- Settles O15, by running the digest. -/
theorem crcKnownValues : Obligations.CrcKnownValues := by
  unfold Obligations.CrcKnownValues
  refine ⟨?_, ?_, ?_⟩
  all_goals simp [crc32, crcByte, crcShifts, crcShift]

/-! ### The texts an encoded frame is made of (R105 to R107) -/

theorem digitString_udec (u : Word) : DigitString (udec u) := by
  obtain ⟨hpos, hmax⟩ := digitsOf_length 10 u.toNat (by decide)
  exact ⟨hpos, hmax, fun b hb => (isDigit_iff b).mp (digitsOf_all 10 u.toNat b hb)⟩

theorem decimalValue_udec (u : Word) : decimalValue (udec u) = u.toNat := by
  rw [← digitsValue_eq_decimalValue]
  exact digitsValue_digitsOf 10 u.toNat (by omega)

theorem digestField_udec (d : Word) : DigestField (udec d) d := ⟨digitString_udec d, decimalValue_udec d⟩

theorem flagField_flagText (k : Bool) : FlagField (flagText k) k := rfl

theorem intField_sdec (v : Word) : IntField (sdec v) v.toInt := by
  have hv : v.toInt = if v.msb then -((-v).toNat : Int) else (v.toNat : Int) := by
    rw [BitVec.toInt_eq_msb_cond]
    split
    · rw [BitVec.toNat_neg]
      have := BitVec.msb_eq_true_iff_two_mul_ge.mp ‹_›
      omega
    · rfl
  refine ⟨v.msb, udec (if v.msb then -v else v), ?_, digitString_udec _, ?_, BitVec.le_toInt v, ?_⟩
  · cases h : v.msb <;> simp [sdec, h, minusByte]
  · rw [hv]
    split <;> rw [decimalValue_udec]
  · exact Int.le_of_lt_add_one (BitVec.toInt_lt (x := v))

/-! ### Encoding and parsing (R105, R108, R118) -/

/-- The header of a frame that carries the digest `d`, with its last separator (30_encoding.md R70). -/
def frameHeader (seq ack : Word) (isAck : Bool) (d : Word) : Bytes :=
  sdec seq ++ sepByte :: (sdec ack ++ sepByte :: (flagText isAck ++ sepByte :: (udec d ++ [sepByte])))

theorem encodeFrame_eq_frameHeader_append (seq ack : Word) (isAck : Bool) (p : Bytes) :
    encodeFrame seq ack isAck p = frameHeader seq ack isAck (crc32 p) ++ p := by
  simp [encodeFrame, frameHeader]

/-- A header parses to its values before every payload, whether its digest is the payload's or not. -/
theorem parseFrame_frameHeader_append (seq ack : Word) (isAck : Bool) (d : Word) (q : Bytes) :
    parseFrame (frameHeader seq ack isAck d ++ q)
      = some { seq := seq, ack := ack, isAck := isAck, payload := q, digest := d,
               isCorrupt := !(crc32 q == d) } := by
  refine (parserAcceptsExactlyTheGrammar _ _).mpr ⟨⟨_, _, _, _, ?_, intField_sdec seq, intField_sdec ack,
    flagField_flagText isAck, digestField_udec d⟩, rfl⟩
  simp [frameHeader, sepByte]

/-- Settles O17: the header carries the payload's own digest. -/
theorem frameRoundTrip : Obligations.FrameRoundTrip := by
  unfold Obligations.FrameRoundTrip
  intro seq ack isAck p
  rw [encodeFrame_eq_frameHeader_append, parseFrame_frameHeader_append]
  simp

theorem decodeFrame_of_parseFrame {frame : Bytes} {p : Packet} (h : parseFrame frame = some p) :
    decodeFrame frame = p ∧ isMalformed frame = false := by
  simp [decodeFrame, isMalformed, h]

theorem decodeFrame_of_isMalformed {frame : Bytes} (h : isMalformed frame = true) :
    decodeFrame frame = malformedPacket := by
  rw [decodeFrame, Option.isNone_iff_eq_none.mp h, Option.getD_none]

/-- Settles O18: the header is unchanged and parses with the digest of the old payload, which is not the digest of
the new one. -/
theorem payloadMutationIsCorrupt : Obligations.PayloadMutationIsCorrupt := by
  unfold Obligations.PayloadMutationIsCorrupt
  intro seq ack isAck p frame k hlen hmin hmax hne hrest
  obtain ⟨b, rfl, hb⟩ := exists_eq_set_of_agree_elsewhere hlen.symm (hlen ▸ hmax) hne.symm
    fun j hj => (hrest j hj).symm
  simp only [encodeFrame_eq_frameHeader_append, List.length_set, List.length_append, Nat.add_sub_cancel]
    at hb hmin hmax ⊢
  obtain ⟨i, rfl⟩ := Nat.exists_eq_add_of_le hmin
  simp only [List.getElem?_append_right hmin, List.set_append_right _ _ hmin, Nat.add_sub_cancel_left] at hb ⊢
  have hcrc : crc32 p ≠ crc32 (p.set i b) := crc32_set_ne (Nat.lt_of_add_lt_add_left hmax) hb
  obtain ⟨hdec, hwf⟩ := decodeFrame_of_parseFrame
    (parseFrame_frameHeader_append seq ack isAck (crc32 p) (p.set i b))
  refine ⟨?_, hwf⟩
  rw [hdec]
  simpa using hcrc.symm

/-- Settles O20: the sentinel is the model's `malformedPacket`, written out. -/
theorem malformedFrameDecodesToTheSentinel : Obligations.MalformedFrameDecodesToTheSentinel := by
  unfold Obligations.MalformedFrameDecodesToTheSentinel
  intro frame h
  exact decodeFrame_of_isMalformed h

/-! ### The commands, once their checks pass (R114 to R117) -/

section
variable {s : State} {data : Bytes}

theorem execEnc_ok {seqCode ackCode : BitVec 2} (isAck : Bool) (hseq : seqCode ≠ 0b10#2) (hack : ackCode ≠ 0b10#2)
    (h : data.length ≤ maxPayload s.cfg) :
    execEnc seqCode ackCode isAck data s
      = .next (s.respond (encResponse (seqCode.signExtend 32) (ackCode.signExtend 32) isAck data)) := by
  simp only [execEnc, codeValue_eq_some _ hseq, codeValue_eq_some _ hack, (payloadTooLong_eq_false_iff _ _).mpr h,
    Bool.false_eq_true, if_false]

theorem execDec_ok (h : data.length ≤ s.cfg.maxFrame) : execDec data s = .next (s.respond (decResponse data)) := by
  simp only [execDec, (frameTooLong_eq_false_iff _ _).mpr h, Bool.false_eq_true, if_false]

theorem execDig_ok (h : data.length ≤ maxPayload s.cfg) :
    execDig data s = .next (s.respond { status := Status.ok.code, v2 := crc32 data }) := by
  simp only [execDig, (payloadTooLong_eq_false_iff _ _).mpr h, Bool.false_eq_true, if_false]

theorem execVfy_ok (digest : Word) (h : data.length ≤ maxPayload s.cfg) :
    execVfy digest data s
      = .next (s.respond
          { status := Status.ok.code, v0 := bitWord (verifyDigest data digest), v2 := crc32 data }) := by
  simp only [execVfy, (payloadTooLong_eq_false_iff _ _).mpr h, Bool.false_eq_true, if_false]

end

theorem bitWord_verifyDigest (data : Bytes) (digest : Word) :
    bitWord (verifyDigest data digest) = if crc32 data = digest then 1#32 else 0#32 := by
  simp only [bitWord, verifyDigest, beq_iff_eq]

/-- Settles O10: both codes stand for a value and the payload fits, so `ENC` gives its response. -/
theorem encAnswersTheFrame : Obligations.EncAnswersTheFrame := by
  unfold Obligations.EncAnswersTheFrame
  intro s seqCode ackCode isAck data hseq hack h
  exact execEnc_ok isAck hseq hack h

/-- Settles O11: the length is the only check of `DEC`, so it answers a malformed frame too. -/
theorem decAnswersThePacket : Obligations.DecAnswersThePacket := by
  unfold Obligations.DecAnswersThePacket
  intro s data h
  exact execDec_ok h

/-- Settles O12: the length is the only check of `DIG`. -/
theorem digAnswersTheDigest : Obligations.DigAnswersTheDigest := by
  unfold Obligations.DigAnswersTheDigest
  intro s data h
  exact execDig_ok h

/-- Settles O13: the length is the only check of `VFY`, and `verify` compares as the statement does. -/
theorem vfyComparesTheDigest : Obligations.VfyComparesTheDigest := by
  unfold Obligations.VfyComparesTheDigest
  intro s digest data h
  rw [← bitWord_verifyDigest]
  exact execVfy_ok digest h

end Sys2Proof.Machine
end

section
/-! The statements about the Fault Injector (41_fault_injector.md R119 to R123): its verdict on given draws, what the
inbound path gives for a frame it passes and for one it drops, and what the two inbound commands do with a dropped
frame. -/

namespace Sys2Proof.Machine

/-! ### The verdict (R121) -/

section
variable {cfg : Config} {rLoss rCorrupt : BitVec 16}

theorem inject_eq_drop (h : rLoss.toNat < cfg.pLossQ16) : inject cfg rLoss rCorrupt = .drop := if_pos h

theorem inject_eq_pass_true (hloss : cfg.pLossQ16 ≤ rLoss.toNat) (hcorrupt : rCorrupt.toNat < cfg.pCorruptQ16) :
    inject cfg rLoss rCorrupt = .pass true := by
  rw [inject, if_neg (Nat.not_lt.mpr hloss), if_pos hcorrupt]

theorem inject_eq_pass_false (hloss : cfg.pLossQ16 ≤ rLoss.toNat) (hcorrupt : cfg.pCorruptQ16 ≤ rCorrupt.toNat) :
    inject cfg rLoss rCorrupt = .pass false := by
  rw [inject, if_neg (Nat.not_lt.mpr hloss), if_neg (Nat.not_lt.mpr hcorrupt)]

/-- A passed frame is cut before it is decoded, and marked after (R123, 30_encoding.md R78). -/
theorem inbound_of_pass {forced : Bool} (data : Bytes) (h : inject cfg rLoss rCorrupt = .pass forced) :
    inbound cfg rLoss rCorrupt data
      = .arrived (markPacket (decodeFrame (cutFrame cfg data)) forced)
          (flagsByte (decodeFrame (cutFrame cfg data)).isAck
            ((decodeFrame (cutFrame cfg data)).isCorrupt || forced)
            (isMalformed (cutFrame cfg data)) forced (isTruncated cfg data)) := by
  rw [inbound, h]
  rfl

end

/-- Settles O24: each clause is one branch of `inject`; no 16-bit draw reaches the threshold 65536. -/
theorem injectorVerdict : Obligations.InjectorVerdict := by
  unfold Obligations.InjectorVerdict
  intro cfg rLoss rCorrupt
  refine ⟨inject_eq_drop, inject_eq_pass_true, inject_eq_pass_false, fun hall => inject_eq_drop ?_⟩
  calc rLoss.toNat
      < 65536 := rLoss.isLt
    _ = cfg.pLossQ16 := hall.symm

/-- Settles O25: the statement is `inbound_of_pass` with the cut, the mark and the two tests written out. -/
theorem injectorOnlyAddsCorruption : Obligations.InjectorOnlyAddsCorruption := by
  unfold Obligations.InjectorOnlyAddsCorruption
  intro cfg rLoss rCorrupt data forced h
  exact inbound_of_pass data h

/-! ### A dropped frame (R122, 43_sender.md R142, 44_receiver.md R155) -/

/-- Of the five flags only `TRUNCATED` can be set for a frame that is not decoded (30_encoding.md R88). -/
theorem droppedResponse_flagsByte (cfg : Config) (data : Bytes) :
    droppedResponse (flagsByte false false false false (isTruncated cfg data))
      = { status := 0x00#8, info := 0x01#8, flags := if cfg.maxFrame < data.length then 0x10#8 else 0#8 } := by
  by_cases h : cfg.maxFrame < data.length
  · have htrunc : isTruncated cfg data = true := decide_eq_true h
    rw [htrunc, if_pos h]
    rfl
  · have htrunc : isTruncated cfg data = false := decide_eq_false h
    rw [htrunc, if_neg h]
    rfl

section
variable {s : State} (data : Bytes)

theorem inboundS_of_drops (h : s.dropsS = true) :
    s.inboundS data = .dropped (flagsByte false false false false (isTruncated s.cfg data)) := by
  obtain ⟨-, hin⟩ | ⟨-, hpass, -⟩ := inboundS_cases s data
  · exact hin
  · exact absurd (hpass.symm.trans h) Bool.false_ne_true

theorem inboundR_of_drops (h : s.dropsR = true) :
    s.inboundR data = .dropped (flagsByte false false false false (isTruncated s.cfg data)) := by
  obtain ⟨-, hin⟩ | ⟨-, hpass, -⟩ := inboundR_cases s data
  · exact hin
  · exact absurd (hpass.symm.trans h) Bool.false_ne_true

theorem execSndRx_dropped (hshut : s.shutdown = false) (h : s.dropsS = true) :
    execSndRx data s
      = .next (s.takeDrawsS.respond
          (droppedResponse (flagsByte false false false false (isTruncated s.cfg data)))) := by
  simp only [execSndRx, hshut, inboundS_of_drops data h, Bool.false_eq_true, if_false]

theorem execRcvRx_dropped (h : s.dropsR = true) :
    execRcvRx data s
      = .next (s.takeDrawsR.respond
          (droppedResponse (flagsByte false false false false (isTruncated s.cfg data)))) := by
  simp only [execRcvRx, inboundR_of_drops data h]

end

/-- Settles O26: on a drop each command takes its two draws and responds; the response is the only thing left to
write out. -/
theorem droppedFrameChangesNothing : Obligations.DroppedFrameChangesNothing := by
  unfold Obligations.DroppedFrameChangesNothing
  intro s data
  rw [← droppedResponse_flagsByte]
  exact ⟨execSndRx_dropped data, execRcvRx_dropped data⟩

end Sys2Proof.Machine
end

section
/-! The statements about the Retransmission Timer and the RTT Estimator (42_timer_rtt.md R125 to R136): one tick for
each state of the timer, the runs of ticks before and after the expiry, the estimate, and the expiry event in an await
state. -/

namespace Sys2Proof.Machine

/-! ### Starting and stopping (R126, R129) -/

/-- Settles O27: both operations are written as the statement says. -/
theorem timerStartArmsAndStopDisarms : Obligations.TimerStartArmsAndStopDisarms := by
  unfold Obligations.TimerStartArmsAndStopDisarms
  exact fun _ => ⟨rfl, rfl⟩

section
variable {s : State}

/-! ### One tick (R127) -/

/-- The tick tests the new count; this is that test on the count before the tick. -/
theorem sub_one_eq_zero_iff_toNat (w : Word) : w - 1#32 = 0#32 ↔ w.toNat = 1 := by bv_omega

theorem sub_one_eq_ofNat {w : Word} (h : 1 ≤ w.toNat) : w - 1#32 = BitVec.ofNat 32 (w.toNat - 1) := by bv_omega

@[simp] theorem tick_now (s : State) : s.tick.now = s.now + 1#32 := by
  obtain ⟨-, ht⟩ | ⟨-, -, ht⟩ | ⟨-, -, ht⟩ := tick_cases s <;> rw [ht]

theorem tick_of_off (h : s.tmrArmed = false) : s.tick = { s with now := s.now + 1#32 } := by
  obtain ⟨-, ht⟩ | ⟨harmed, -⟩ | ⟨harmed, -⟩ := tick_cases s
  · exact ht
  all_goals exact absurd (h.symm.trans harmed) Bool.false_ne_true

theorem tick_of_two_le (h : s.tmrArmed = true) (hcount : 2 ≤ s.tmrCount.toNat) :
    s.tick = { s with now := s.now + 1#32, tmrCount := BitVec.ofNat 32 (s.tmrCount.toNat - 1) } := by
  obtain ⟨hoff, -⟩ | ⟨-, hlast, -⟩ | ⟨-, -, ht⟩ := tick_cases s
  · exact absurd (hoff.symm.trans h) Bool.false_ne_true
  · have hone := (sub_one_eq_zero_iff_toNat _).mp hlast
    omega
  · rw [ht, sub_one_eq_ofNat (Nat.le_of_succ_le hcount)]

theorem tick_of_one (h : s.tmrArmed = true) (hcount : s.tmrCount.toNat = 1) :
    s.tick = { s with now := s.now + 1#32, tmrCount := 0#32, tmrArmed := false, tmrPend := true } := by
  obtain ⟨hoff, -⟩ | ⟨-, -, ht⟩ | ⟨-, hmore, -⟩ := tick_cases s
  · exact absurd (hoff.symm.trans h) Bool.false_ne_true
  · exact ht
  · exact absurd ((sub_one_eq_zero_iff_toNat _).mpr hcount) hmore

/-! ### Runs of ticks (R127, R130) -/

theorem add_one_add_ofNat (w : Word) (n : Nat) : w + 1#32 + BitVec.ofNat 32 n = w + BitVec.ofNat 32 (n + 1) := by
  rw [BitVec.add_assoc, ← BitVec.ofNat_add, Nat.add_comm]

theorem toNat_ofNat_toNat_sub (w : Word) (k : Nat) : (BitVec.ofNat 32 (w.toNat - k)).toNat = w.toNat - k := by
  bv_omega

theorem ticks_of_off (h : s.tmrArmed = false) (n : Nat) :
    s.ticks n = { s with now := s.now + BitVec.ofNat 32 n } := by
  induction n generalizing s with
  | zero => rw [State.ticks, BitVec.add_zero]
  | succ n ih => rw [State.ticks, tick_of_off h, ih (by exact h), add_one_add_ofNat]

/-- As long as a tick is left, `n` ticks only count. -/
theorem ticks_of_lt_count {n : Nat} (h : s.tmrArmed = true) (hn : n < s.tmrCount.toNat) :
    s.ticks n
      = { s with now := s.now + BitVec.ofNat 32 n, tmrCount := BitVec.ofNat 32 (s.tmrCount.toNat - n) } := by
  induction n generalizing s with
  | zero => rw [State.ticks, BitVec.add_zero, Nat.sub_zero, BitVec.ofNat_toNat, BitVec.setWidth_eq]
  | succ n ih =>
    have hleft := toNat_ofNat_toNat_sub s.tmrCount 1
    rw [State.ticks, tick_of_two_le h (by omega), ih (by exact h) (by dsimp only; omega), add_one_add_ofNat, hleft,
      Nat.sub_sub, Nat.add_comm 1 n]

/-- The tick that takes the count to 0 latches the expiry; the ticks after it leave the timer off. -/
theorem ticks_of_count_le {n : Nat} (h : s.tmrArmed = true) (hcount : 1 ≤ s.tmrCount.toNat)
    (hn : s.tmrCount.toNat ≤ n) :
    s.ticks n
      = { s with now := s.now + BitVec.ofNat 32 n, tmrCount := 0#32, tmrArmed := false, tmrPend := true } := by
  induction n generalizing s with
  | zero => omega
  | succ n ih =>
    obtain hone | hmore : s.tmrCount.toNat = 1 ∨ 2 ≤ s.tmrCount.toNat := by omega
    · rw [State.ticks, tick_of_one h hone, ticks_of_off rfl, add_one_add_ofNat]
    · have hleft := toNat_ofNat_toNat_sub s.tmrCount 1
      rw [State.ticks, tick_of_two_le h hmore, ih (by exact h) (by dsimp only; omega) (by dsimp only; omega),
        add_one_add_ofNat]

end

/-- Settles O28: the statement is one lemma for each state of the timer. -/
theorem tickCountsDown : Obligations.TickCountsDown := by
  unfold Obligations.TickCountsDown
  intro s
  exact ⟨by rw [tick_now, BitVec.toNat_add]; rfl, tick_of_off, tick_of_two_le, tick_of_one⟩

/-- Settles O29: below the count the run only counts, from the count on the expiry is latched. -/
theorem timerExpiresAtTheEstTimeoutTick : Obligations.TimerExpiresAtTheEstTimeoutTick := by
  unfold Obligations.TimerExpiresAtTheEstTimeoutTick
  intro s n harmed hpend hcount
  refine ⟨fun hn => ?_, fun hn => ?_⟩
  · rw [ticks_of_lt_count harmed hn]
    exact ⟨harmed, hpend, toNat_ofNat_toNat_sub s.tmrCount n⟩
  · rw [ticks_of_count_le harmed (by bv_omega) hn]
    exact ⟨rfl, rfl⟩

/-! ### The estimate (R133, R134) -/

/-- Settles O30: `ewma_toNat` says that nothing wraps, and the bound is the outer `max`. -/
theorem ewmaIsExactAndAtLeastOne : Obligations.EwmaIsExactAndAtLeastOne := by
  unfold Obligations.EwmaIsExactAndAtLeastOne
  intro alpha est sample halpha
  have hexact := ewma_toNat halpha est sample
  exact ⟨hexact, hexact ▸ Nat.le_max_right _ _⟩

/-! ### The expiry event in an await state (R128, 43_sender.md R147) -/

/-- An expiry that is latched and has room transmits the pending frame. -/
theorem expire_of_awaiting {s : State} (hpend : s.tmrPend = true) (hshut : s.shutdown = false)
    (hwait : s.sndState.awaiting = true) (hroom : s.txS.length < s.cfg.outDepth) :
    s.expire = State.transmit s.pendingFrame { s with tmrPend := false } := by
  obtain ⟨hoff, -⟩ | ⟨-, hquiet, -⟩ | ⟨-, -, -, -, he⟩ := expire_cases s
  · have hon := (expiryEnabled_iff s).mpr ⟨hpend, fun _ => hroom⟩
    exact absurd (hoff.symm.trans hon) Bool.false_ne_true
  · have hemits := (timeoutEmits_iff s).mpr ⟨hshut, hwait⟩
    exact absurd (hquiet.symm.trans hemits) Bool.false_ne_true
  · exact he

/-- Settles O31: the statement is the transmission of `PEND_BUF[0:PEND_LEN)` written out. -/
theorem expiryRetransmits : Obligations.ExpiryRetransmits := by
  unfold Obligations.ExpiryRetransmits
  intro s hpend hshut hwait hroom
  rw [expire_of_awaiting hpend hshut hwait hroom]
  rfl

end Sys2Proof.Machine
end

section
/-! The statements about the Sender (43_sender.md R137 to R152): each path of `SND_SEND`, `SND_RX` and `SND_TIMEOUT`
under the negation of the earlier checks, what a run reads of `SHUTDOWN`, and what moves `SND_STATE`. -/

namespace Sys2Proof.Machine

/-! ### The states of the cycle (R137) -/

theorem awaitState_eq_ite (b : Bool) : awaitState b = if b then .aw1 else .aw0 := rfl

/-- `RTS(1-b)`. -/
theorem readyState_otherBit (b : Bool) : readyState (otherBit b) = if b then .rts0 else .rts1 := by cases b <;> rfl

/-! ### Refusals and the commands without a frame (R140, R147 to R151) -/

section
variable {s : State} {data : Bytes}

theorem execSndSend_busy (hdata : data.length ≤ maxPayload s.cfg) (hshut : s.shutdown = false)
    (hwait : s.sndState.awaiting = true) : execSndSend data s = .next (s.refuse .busy) := by
  simp [execSndSend, (payloadTooLong_eq_false_iff _ _).mpr hdata, hshut, hwait]

theorem execSndSend_shutdown (hdata : data.length ≤ maxPayload s.cfg) (hshut : s.shutdown = true) :
    execSndSend data s = .next (s.refuse .shutdown) := by
  simp [execSndSend, (payloadTooLong_eq_false_iff _ _).mpr hdata, hshut]

theorem execSndRx_shutdown (hshut : s.shutdown = true) : execSndRx data s = .next (s.refuse .shutdown) := by
  simp [execSndRx, hshut]

theorem execSndTimeout_shutdown (hshut : s.shutdown = true) : execSndTimeout s = .next (s.refuse .shutdown) := by
  simp [execSndTimeout, hshut]

theorem execSndTimeout_retransmits (hshut : s.shutdown = false) (hwait : s.sndState.awaiting = true)
    (hroom : s.txS.length < s.cfg.outDepth) :
    execSndTimeout s
      = .next ((s.transmit s.pendingFrame).respond { status := Status.ok.code, info := Info.retransmitted.code }) := by
  simp [execSndTimeout, State.onTimeout, hshut, hwait, (hasRoom_iff _ _).mpr hroom]

theorem execSndTimeout_ignored (hshut : s.shutdown = false) (hidle : s.sndState.awaiting = false) :
    execSndTimeout s = .next (s.respond { status := Status.ok.code, info := Info.ignored.code }) := by
  simp [execSndTimeout, State.onTimeout, State.timeoutEmits, hshut, hidle]

end

theorem bitWord_sndReady (s : State) : bitWord s.sndReady = if s.sndState.awaiting then 0#32 else 1#32 := by
  cases h : s.sndState.awaiting <;> simp [State.sndReady, bitWord, h]

/-- Settles O33: `transmit` is the emission, the stamp and `timer_start` in a row. -/
theorem transmitEmitsStampsAndArms : Obligations.TransmitEmitsStampsAndArms := by
  unfold Obligations.TransmitEmitsStampsAndArms
  exact fun _ _ => rfl

/-- Settles O34: the statement is `sendNew` written out, field by field. -/
theorem sndSendTransmits : Obligations.SndSendTransmits := by
  unfold Obligations.SndSendTransmits
  intro s data hdata hshut hidle hroom
  rw [← awaitState_eq_ite]
  exact execSndSend_transmits hdata hshut hidle hroom

/-- Settles O36: the third check of `SND_SEND` refuses. -/
theorem sndSendWhileAwaitingIsBusy : Obligations.SndSendWhileAwaitingIsBusy := by
  unfold Obligations.SndSendWhileAwaitingIsBusy
  intro s data hdata hshut hwait
  exact execSndSend_busy hdata hshut hwait

/-- Settles O41: the two branches of the timeout handler without shutdown. -/
theorem sndTimeoutRunsTheHandler : Obligations.SndTimeoutRunsTheHandler := by
  unfold Obligations.SndTimeoutRunsTheHandler
  intro s hshut
  exact ⟨execSndTimeout_retransmits hshut, execSndTimeout_ignored hshut⟩

/-- Settles O43: `SND_SHUTDOWN` has no check, and its one path is the statement. -/
theorem sndShutdownSetsTheFlag : Obligations.SndShutdownSetsTheFlag := by
  unfold Obligations.SndShutdownSetsTheFlag
  exact fun _ => rfl

/-! ### An inbound frame (R142 to R146) -/

section
variable {s : State} (data : Bytes)

/-- A frame that is not dropped arrives with the mark of the injector. -/
theorem inboundS_of_not_drops (h : s.dropsS = false) :
    s.inboundS data = .arrived (markPacket (decodeFrame (cutFrame s.cfg data)) s.forcesS)
      (flagsByte (decodeFrame (cutFrame s.cfg data)).isAck
        ((decodeFrame (cutFrame s.cfg data)).isCorrupt || s.forcesS)
        (isMalformed (cutFrame s.cfg data)) s.forcesS (isTruncated s.cfg data)) := by
  obtain ⟨hdrop, -⟩ | ⟨forced, -, rfl, -, hin⟩ := inboundS_cases s data
  · exact absurd (h.symm.trans hdrop) Bool.false_ne_true
  · exact hin

/-- The discard path (R143); `markPacket` leaves the fields that the response shows. -/
theorem execSndRx_discarded (hshut : s.shutdown = false) (hdrop : s.dropsS = false)
    (hbad : (decodeFrame (cutFrame s.cfg data)).isCorrupt = true ∨ s.forcesS = true
      ∨ (decodeFrame (cutFrame s.cfg data)).isAck = false) :
    execSndRx data s
      = .next (s.takeDrawsS.respond (packetResponse .discarded
          (flagsByte (decodeFrame (cutFrame s.cfg data)).isAck
            ((decodeFrame (cutFrame s.cfg data)).isCorrupt || s.forcesS)
            (isMalformed (cutFrame s.cfg data)) s.forcesS (isTruncated s.cfg data))
          (decodeFrame (cutFrame s.cfg data)))) := by
  have hdiscard : ((markPacket (decodeFrame (cutFrame s.cfg data)) s.forcesS).isCorrupt
      || !(markPacket (decodeFrame (cutFrame s.cfg data)) s.forcesS).isAck) = true := by
    simpa [markPacket, or_assoc] using hbad
  simp only [execSndRx, hshut, inboundS_of_not_drops data hdrop, hdiscard, Bool.false_eq_true, if_false, if_true]
  rfl

/-- The flags of an uncorrupted ACK show `IS_ACK`, and `TRUNCATED` where the frame was cut (30_encoding.md R88). -/
theorem flagsByte_of_ack (cfg : Config) :
    flagsByte true false false false (isTruncated cfg data)
      = if cfg.maxFrame < data.length then 0x11#8 else 0x01#8 := by
  by_cases h : cfg.maxFrame < data.length <;> simp [isTruncated, h, flagsByte]

end

section
variable {s : State} {data : Bytes} (hclean : s.cleanS = true)
  (hintact : (decodeFrame (data.take s.cfg.maxFrame)).isCorrupt = false)
  (hisAck : (decodeFrame (data.take s.cfg.maxFrame)).isAck = true)
include hclean hintact hisAck

theorem inboundS_of_ack :
    s.inboundS data = .arrived (decodeFrame (data.take s.cfg.maxFrame))
      (if s.cfg.maxFrame < data.length then 0x11#8 else 0x01#8) := by
  rw [inboundS_of_clean hclean, cutFrame, hintact, hisAck, isMalformed_of_not_corrupt _ hintact, flagsByte_of_ack]

/-- A valid ACK in a ready state (R146). -/
theorem execSndRx_ignored (hshut : s.shutdown = false) (hidle : s.sndState.awaiting = false) :
    execSndRx data s
      = .next (s.takeDrawsS.respond (packetResponse .ignored
          (if s.cfg.maxFrame < data.length then 0x11#8 else 0x01#8) (decodeFrame (data.take s.cfg.maxFrame)))) := by
  simp [execSndRx, hshut, inboundS_of_ack hclean hintact hisAck, hintact, hisAck, hidle]

/-- The match path (R144). -/
theorem execSndRx_matched (hshut : s.shutdown = false) (hwait : s.sndState.awaiting = true)
    (hack : (decodeFrame (data.take s.cfg.maxFrame)).ack = bitWord s.sndState.bit) :
    execSndRx data s
      = .next (s.takeDrawsS.ackMatched.respond (packetResponse .ackMatch
          (if s.cfg.maxFrame < data.length then 0x11#8 else 0x01#8) (decodeFrame (data.take s.cfg.maxFrame)))) := by
  simp [execSndRx, hshut, inboundS_of_ack hclean hintact hisAck, hintact, hisAck, hwait, hack]

/-- The mismatch path (R145). -/
theorem execSndRx_mismatched (hshut : s.shutdown = false) (hwait : s.sndState.awaiting = true)
    (hack : (decodeFrame (data.take s.cfg.maxFrame)).ack ≠ bitWord s.sndState.bit)
    (hroom : s.txS.length < s.cfg.outDepth) :
    execSndRx data s
      = .next ((s.takeDrawsS.transmit s.pendingFrame).respond (packetResponse .ackMismatch
          (if s.cfg.maxFrame < data.length then 0x11#8 else 0x01#8) (decodeFrame (data.take s.cfg.maxFrame)))) := by
  simp [execSndRx, hshut, inboundS_of_ack hclean hintact hisAck, hintact, hisAck, hwait, hack,
    (hasRoom_iff _ _).mpr hroom]

end

/-- Settles O37: the statement is `ackMatched` written out, with the new estimate. -/
theorem sndRxMatchAdvances : Obligations.SndRxMatchAdvances := by
  unfold Obligations.SndRxMatchAdvances
  intro s data hshut hwait hclean hintact hisAck hack
  rw [← readyState_otherBit]
  exact execSndRx_matched hclean hintact hisAck hshut hwait hack

/-- Settles O38: the statement is the transmission of `PEND_BUF[0:PEND_LEN)` written out. -/
theorem sndRxMismatchRetransmits : Obligations.SndRxMismatchRetransmits := by
  unfold Obligations.SndRxMismatchRetransmits
  intro s data hshut hwait hclean hintact hisAck hack hroom
  exact execSndRx_mismatched hclean hintact hisAck hshut hwait hack hroom

/-- Settles O39: each of the three reasons fails the first test on an arrived frame. -/
theorem sndRxDiscardChangesNothing : Obligations.SndRxDiscardChangesNothing := by
  unfold Obligations.SndRxDiscardChangesNothing
  intro s data hshut hdrop hbad
  exact execSndRx_discarded data hshut hdrop hbad

/-- Settles O40: a valid ACK finds no message to acknowledge. -/
theorem sndRxWhileReadyIsIgnored : Obligations.SndRxWhileReadyIsIgnored := by
  unfold Obligations.SndRxWhileReadyIsIgnored
  intro s data hshut hidle hclean hintact hisAck
  exact execSndRx_ignored hclean hintact hisAck hshut hidle

/-! ### CSR 0x01 (10_state.md R34) -/

theorem execCsrRd_of_csrValue {s : State} {n : BitVec 8} {v : Word} (h : csrValue s n = some v) :
    execCsrRd n s = .next (s.respond { status := Status.ok.code, v0 := v }) := by
  simp only [execCsrRd, h]

theorem csrValue_sndState (s : State) : csrValue s 0x01#8 = some (csrSndState s) := rfl

/-- Bit 4 of CSR 0x01 is `READY`. -/
theorem csrSndState_ready (s : State) : (csrSndState s).getLsbD 4 = s.sndReady := by
  have hbit : ∀ (ready valid shut : Bool) (code : BitVec 2),
      (0#27 ++ BitVec.ofBool ready ++ BitVec.ofBool valid ++ BitVec.ofBool shut ++ code).getLsbD 4 = ready := by decide
  exact hbit _ _ _ _

/-- Bit 2 of CSR 0x01 is `SHUTDOWN`, and the other bits do not depend on it. -/
theorem csrSndState_shutdown (s : State) :
    csrSndState { s with shutdown := true } = csrSndState s ||| 0x00000004#32 := by
  have hbits : ∀ (ready valid shut : Bool) (code : BitVec 2),
      0#27 ++ BitVec.ofBool ready ++ BitVec.ofBool valid ++ BitVec.ofBool true ++ code
        = (0#27 ++ BitVec.ofBool ready ++ BitVec.ofBool valid ++ BitVec.ofBool shut ++ code) ||| 0x00000004#32 := by
    decide
  exact hbits _ _ _ _

/-- Settles O42: the response shows the level of the pin, which is bit 4 of CSR 0x01. -/
theorem sndReadyReportsTheStateBit : Obligations.SndReadyReportsTheStateBit := by
  unfold Obligations.SndReadyReportsTheStateBit
  intro s
  refine ⟨?_, rfl, csrSndState s, csrValue_sndState s, csrSndState_ready s⟩
  rw [← bitWord_sndReady]
  rfl

/-! ### What a run reads of `SHUTDOWN` (R151) -/

/-- The same state with `SHUTDOWN` set. -/
def State.withShutdown (s : State) : State := { s with shutdown := true }

section
variable {s t : State}

/-- A command that checks its data and else answers, whatever `SHUTDOWN` is. -/
theorem answeredIf_withShutdown (check : Bool) (st : Status) (r : Response) :
    (if check then s.withShutdown.refuse st else s.withShutdown.respond r)
      = (if check then s.refuse st else s.respond r).withShutdown := by
  split <;> rfl

theorem execEnc_withShutdown {seqCode ackCode : BitVec 2} {isAck : Bool} {data : Bytes}
    (h : execEnc seqCode ackCode isAck data s = .next t) :
    execEnc seqCode ackCode isAck data s.withShutdown = .next t.withShutdown := by
  cases h
  unfold execEnc
  cases codeValue seqCode with
  | none => rfl
  | some seq =>
    cases codeValue ackCode with
    | none => rfl
    | some ack => exact congrArg _ (answeredIf_withShutdown _ _ _)

/-- `RCV_RX` does not read the Sender's part of the state, which `SHUTDOWN` belongs to, and carries it along. -/
theorem execRcvRx_withShutdown {data : Bytes} (h : exec (.rcvRx data) s = .next t) :
    exec (.rcvRx data) s.withShutdown = .next t.withShutdown := by
  have hframe := (exec_effect h).receiver_frame rfl
  have hsame : t.withSender s.withShutdown.sender = t.withShutdown := by
    rw [hframe]
    rfl
  rw [← hsame]
  exact exec_withSender s.withShutdown.sender s rfl h

theorem execCsrRd_withShutdown {n : BitVec 8} (hn : n ≠ 0x01#8) (h : execCsrRd n s = .next t) :
    execCsrRd n s.withShutdown = .next t.withShutdown := by
  cases h
  rw [execCsrRd, State.withShutdown, csrValue_shutdown s true n hn]
  cases csrValue s n <;> rfl

end

/-- Settles O44: the shutdown check refuses the three commands before they look at a frame or the draws; none of the
other commands reads `SHUTDOWN`, but `CSR_RD` of CSR 0x01. -/
theorem afterShutdown : Obligations.AfterShutdown := by
  unfold Obligations.AfterShutdown
  intro s
  refine ⟨fun hshut => ⟨fun data hdata => execSndSend_shutdown hdata hshut, fun data => execSndRx_shutdown hshut,
    execSndTimeout_shutdown hshut⟩, fun i t hi h => ?_, csrSndState s, ?_, ?_⟩
  · obtain ⟨_, _, _, _, rfl⟩ | ⟨_, rfl⟩ | ⟨_, rfl⟩ | ⟨_, _, rfl⟩ | ⟨_, rfl⟩ | rfl | rfl | ⟨n, hn, rfl⟩ := hi
    · exact execEnc_withShutdown h
    · cases h; exact congrArg _ (answeredIf_withShutdown _ _ _)
    · cases h; exact congrArg _ (answeredIf_withShutdown _ _ _)
    · cases h; exact congrArg _ (answeredIf_withShutdown _ _ _)
    · exact execRcvRx_withShutdown h
    · cases h; rfl
    · cases h; rfl
    · exact execCsrRd_withShutdown hn h
  · exact execCsrRd_of_csrValue (csrValue_sndState s)
  · rw [← csrSndState_shutdown]
    exact execCsrRd_of_csrValue (csrValue_sndState _)

/-! ### What moves `SND_STATE` (R152) -/

theorem tick_sndState (s : State) : s.tick.sndState = s.sndState := by
  obtain ⟨-, ht⟩ | ⟨-, -, ht⟩ | ⟨-, -, ht⟩ := tick_cases s <;> rw [ht]

theorem expire_sndState (s : State) : s.expire.sndState = s.sndState := by
  obtain ⟨-, he⟩ | ⟨-, -, he⟩ | ⟨-, -, -, -, he⟩ := expire_cases s <;> simp [he]

theorem present_sndState (s : State) (c : Command) : (s.present c).sndState = s.sndState := by
  unfold State.present
  split <;> rfl

@[simp] theorem State.acceptPayload_sndState (s : State) (payload : Bytes) :
    (s.acceptPayload payload).sndState = s.sndState := rfl

@[simp] theorem State.reAck_sndState (s : State) : s.reAck.sndState = s.sndState := rfl

/-- How the command `i` moves `SND_STATE`: from `RTSb` to `AWb`, or from `AWb` to `RTS(1-b)`. -/
def CommandMoves (i : Instr) (s t : State) : Prop :=
  ∃ data : Bytes,
    (i = .sndSend data ∧ s.sndState.awaiting = false ∧ t.sndState = awaitState s.sndState.bit)
    ∨ (i = .sndRx data ∧ s.sndState.awaiting = true ∧ s.cleanS = true
        ∧ (decodeFrame (data.take s.cfg.maxFrame)).isCorrupt = false
        ∧ (decodeFrame (data.take s.cfg.maxFrame)).isAck = true
        ∧ (decodeFrame (data.take s.cfg.maxFrame)).ack = bitWord s.sndState.bit
        ∧ t.sndState = readyState (otherBit s.sndState.bit))

/-- Of the paths of the commands only two write `SND_STATE`. -/
theorem CommandEffect.moves {i : Instr} {s t : State} (h : CommandEffect s i t) (hne : t.sndState ≠ s.sndState) :
    CommandMoves i s t := by
  cases h with
  | sent data r _ _ hidle => exact ⟨data, .inl ⟨rfl, hidle, rfl⟩⟩
  | matched data r hwait hclean hintact hisAck hack =>
    exact ⟨data, .inr ⟨rfl, hwait, hclean, hintact, hisAck, hack, rfl⟩⟩
  | _ => exact absurd (by simp) hne

/-- A step that moves `SND_STATE` takes a reset, or a command that moves it. -/
theorem step_sndState {s t : State} (h : step s = .next t) (hne : t.sndState ≠ s.sndState) :
    (∃ (cfg : Config) (rest : List Event), s.schedule = .reset cfg :: rest ∧ t.sndState = .rts0)
    ∨ ∃ (c : Command) (rest : List Event) (i : Instr), s.schedule = .accept :: rest ∧ s.port = some c
        ∧ decode c = .instr i ∧ CommandMoves i { s with schedule := rest } t := by
  obtain ⟨-, rfl⟩ | ⟨e, rest, hsch, he⟩ := step_cases s t h
  · exact absurd rfl hne
  obtain ⟨c, -, rfl⟩ | ⟨rfl, h⟩ | ⟨-, rfl⟩ | ⟨-, rfl⟩ | ⟨-, rfl⟩ | ⟨-, rfl⟩ | ⟨-, rfl⟩ | ⟨cfg, rfl, -, rfl⟩ := he
  · exact absurd (present_sndState _ c) hne
  · obtain ⟨-, rfl⟩ | ⟨_, r, -, -, rfl⟩ | ⟨c, i, hport, hdec, h⟩ := acceptCommand_cases _ t h
    · exact absurd rfl hne
    · exact absurd (State.refuse_sndState _ _) hne
    · exact .inr ⟨c, rest, i, hsch, hport, hdec, (exec_effect h).moves hne⟩
  · exact absurd (tick_sndState _) hne
  · exact absurd (expire_sndState _) hne
  · exact absurd rfl hne
  · exact absurd rfl hne
  · exact absurd rfl hne
  · exact .inl ⟨cfg, rest, hsch, rfl⟩

/-- Settles O57: the two moves of `CommandMoves`, with the states of the cycle written out. -/
theorem senderStateMovesOnlyAlongTheCycle : Obligations.SenderStateMovesOnlyAlongTheCycle := by
  unfold Obligations.SenderStateMovesOnlyAlongTheCycle
  intro s t h hne
  obtain hreset | ⟨c, rest, i, hsch, hport, hdec, data, ⟨rfl, hidle, hmove⟩
    | ⟨rfl, hwait, hclean, hintact, hisAck, hack, hmove⟩⟩ := step_sndState h hne
  · exact .inl hreset
  · exact .inr ⟨c, rest, data, hsch, hport, .inl ⟨hdec, hidle, hmove⟩⟩
  · rw [readyState_otherBit] at hmove
    exact .inr ⟨c, rest, data, hsch, hport, .inr ⟨hdec, hwait, hclean, hintact, hisAck, hack, hmove⟩⟩

end Sys2Proof.Machine
end

section
/-! The statements about the Receiver (44_receiver.md R153 to R158): the two ACK frames, the two paths of `RCV_RX` for a
frame that is not dropped, and the order of the accepted frames, for which each step that is no reset either accepts
one frame or leaves `EXPECTED` and delivers nothing. -/

namespace Sys2Proof.Machine

/-! ### The ACK frames (R154) -/

theorem sdec_minusOne : sdec minusOne = [minusByte, 0x31#8] := by decide

/-- The text of a sequence bit is that of a flag (30_encoding.md R71). -/
theorem sdec_bitWord (b : Bool) : sdec (bitWord b) = flagText b := by cases b <;> decide

theorem udec_zero : udec 0#32 = [zeroByte] := by decide

/-- The ACK frame of `n` holds no payload, so its digest field is `0` (40_codec.md R103). -/
theorem ackFrame_eq (n : Bool) :
    ackFrame n = [minusByte, 0x31#8, sepByte] ++ flagText n ++ [sepByte, 0x31#8, sepByte, zeroByte, sepByte] := by
  obtain ⟨hempty, -, -⟩ := crcKnownValues
  simp [ackFrame, encodeFrame, sdec_minusOne, sdec_bitWord, hempty, udec_zero, flagText]

/-- Settles O22: `ackFrame_eq` for each of the two bits. -/
theorem ackFramesAreNineBytes : Obligations.AckFramesAreNineBytes := by
  unfold Obligations.AckFramesAreNineBytes
  exact ⟨ackFrame_eq false, ackFrame_eq true⟩

/-! ### The two paths of a frame that is not dropped (R155 to R157) -/

section
variable {s : State} {data : Bytes}

/-- A frame that is not dropped arrives with the mark of the injector. -/
theorem inboundR_eq_arrived (h : s.dropsR = false) :
    s.inboundR data = .arrived (markPacket (decodeFrame (cutFrame s.cfg data)) s.forcesR)
      (flagsByte (decodeFrame (cutFrame s.cfg data)).isAck
        ((decodeFrame (cutFrame s.cfg data)).isCorrupt || s.forcesR)
        (isMalformed (cutFrame s.cfg data)) s.forcesR (isTruncated s.cfg data)) := by
  obtain ⟨hdrop, -⟩ | ⟨forced, -, rfl, -, hin⟩ := inboundR_cases s data
  · exact absurd (h.symm.trans hdrop) Bool.false_ne_true
  · exact hin

/-- The accept path (R156). -/
theorem execRcvRx_accepted (hclean : s.cleanR = true)
    (hintact : (decodeFrame (data.take s.cfg.maxFrame)).isCorrupt = false)
    (hseq : (decodeFrame (data.take s.cfg.maxFrame)).seq = bitWord s.expected)
    (hroomD : s.deliver.length < s.cfg.outDepth) (hroomR : s.txR.length < s.cfg.outDepth) :
    execRcvRx data s
      = .next ((s.takeDrawsR.acceptPayload (decodeFrame (data.take s.cfg.maxFrame)).payload).respond
          (packetResponse .accepted
            (flagsByte (decodeFrame (data.take s.cfg.maxFrame)).isAck false false false (isTruncated s.cfg data))
            (decodeFrame (data.take s.cfg.maxFrame)))) := by
  simp [execRcvRx, inboundR_of_clean hclean, cutFrame, hintact, isMalformed_of_not_corrupt _ hintact, hseq,
    (hasRoom_iff _ _).mpr hroomD, (hasRoom_iff _ _).mpr hroomR]

/-- The re-ACK path (R157); `markPacket` leaves the fields that the response shows. -/
theorem execRcvRx_reAcked (hdrop : s.dropsR = false)
    (hbad : (decodeFrame (cutFrame s.cfg data)).isCorrupt = true ∨ s.forcesR = true
      ∨ (decodeFrame (cutFrame s.cfg data)).seq ≠ bitWord s.expected)
    (hroom : s.txR.length < s.cfg.outDepth) :
    execRcvRx data s
      = .next (s.takeDrawsR.reAck.respond (packetResponse .reacked
          (flagsByte (decodeFrame (cutFrame s.cfg data)).isAck
            ((decodeFrame (cutFrame s.cfg data)).isCorrupt || s.forcesR)
            (isMalformed (cutFrame s.cfg data)) s.forcesR (isTruncated s.cfg data))
          (decodeFrame (cutFrame s.cfg data)))) := by
  have hrefused : (!(markPacket (decodeFrame (cutFrame s.cfg data)) s.forcesR).isCorrupt
      && (markPacket (decodeFrame (cutFrame s.cfg data)) s.forcesR).seq == bitWord s.expected) = false := by
    simpa only [markPacket, Bool.and_eq_false_iff, Bool.not_eq_false', Bool.or_eq_true, beq_eq_false_iff_ne,
      or_assoc] using hbad
  simp only [execRcvRx, inboundR_eq_arrived hdrop, hrefused, (hasRoom_iff _ _).mpr hroom, Bool.false_eq_true,
    if_false, if_true]
  rfl

end

/-- The three effects of the accept path (R156). -/
theorem State.acceptPayload_eq (s : State) (payload : Bytes) :
    s.acceptPayload payload
      = { s with
          deliver := s.deliver ++ [payload]
          txR := s.txR ++ [ackFrame s.expected]
          expected := !s.expected } := rfl

/-- Settles O46: the statement is the accept path with the effects of `acceptPayload` written out. -/
theorem rcvRxAccepts : Obligations.RcvRxAccepts := by
  unfold Obligations.RcvRxAccepts
  intro s data hclean hintact hseq hroomD hroomR
  have hexec := execRcvRx_accepted hclean hintact hseq hroomD hroomR
  rw [State.acceptPayload_eq] at hexec
  exact hexec

/-- Settles O47: each of the three reasons fails the test of the accept path. -/
theorem rcvRxReAcks : Obligations.RcvRxReAcks := by
  unfold Obligations.RcvRxReAcks
  intro s data hdrop hbad hroom
  exact execRcvRx_reAcked hdrop hbad hroom

/-! ### A step uses up one event of the schedule (20_memory.md R66) -/

theorem present_schedule (s : State) (c : Command) : (s.present c).schedule = s.schedule := by
  unfold State.present
  split <;> rfl

theorem CommandEffect.schedule_eq {i : Instr} {s t : State} (h : CommandEffect s i t) : t.schedule = s.schedule := by
  cases h with
  | accepted => rw [State.respond_schedule, State.acceptPayload_eq, State.takeDrawsR_schedule]
  | _ => rfl

theorem acceptCommand_schedule {s t : State} (h : acceptCommand s = .next t) : t.schedule = s.schedule := by
  obtain ⟨-, rfl⟩ | ⟨-, -, -, -, rfl⟩ | ⟨_, _, -, -, h⟩ := acceptCommand_cases s t h
  · rfl
  · rfl
  · exact (exec_effect h).schedule_eq

theorem step_schedule {s t : State} (h : step s = .next t) : t.schedule = s.schedule.tail := by
  obtain ⟨hsch, rfl⟩ | ⟨e, rest, hsch, he⟩ := step_cases s t h
  · rw [hsch, List.tail_nil]
  rw [hsch, List.tail_cons]
  obtain ⟨c, -, rfl⟩ | ⟨-, h⟩ | ⟨-, rfl⟩ | ⟨-, rfl⟩ | ⟨-, rfl⟩ | ⟨-, rfl⟩ | ⟨-, rfl⟩ | ⟨cfg, -, -, rfl⟩ := he
  · exact present_schedule _ c
  · exact acceptCommand_schedule h
  · exact congrArg State.schedule (tick_frame _)
  · exact congrArg State.schedule (expire_frame _)
  · rfl
  · rfl
  · rfl
  · rfl

/-! ### What one step does to the Receiver (R158) -/

/-- What a step that is no reset can do to `EXPECTED` and to `DELIVER`. -/
inductive ReceiverEffect (s t : State) : Prop
  /-- No frame is accepted; the Application may take an entry. -/
  | quiet (hexpected : t.expected = s.expected) (hlength : t.deliver.length ≤ s.deliver.length)
  /-- One frame is accepted, and the response reports the `seq` value that was expected (R156). -/
  | accepted (payload : Bytes) (r : Response) (hexpected : t.expected = !s.expected)
      (hdeliver : t.deliver = s.deliver ++ [payload]) (hresp : t.resp = some r) (hseq : r.v0 = bitWord s.expected)

theorem ReceiverEffect.of_receiver_eq {s t : State} (h : t.receiver = s.receiver) : ReceiverEffect s t :=
  .quiet (congrArg ReceiverPart.expected h) (congrArg (fun part => part.deliver.length) h).le

theorem present_receiver (s : State) (c : Command) : (s.present c).receiver = s.receiver := by
  unfold State.present
  split <;> rfl

theorem tick_receiver (s : State) : s.tick.receiver = s.receiver := by
  rw [tick_frame]
  rfl

theorem expire_receiver (s : State) : s.expire.receiver = s.receiver := by
  rw [expire_frame]
  rfl

/-- Only `RCV_RX` writes the Receiver's part of the state. -/
theorem CommandEffect.receiver_eq {i : Instr} {s t : State} (h : CommandEffect s i t)
    (hi : isReceiverCommand i = false) : t.receiver = s.receiver := by
  cases h with
  | drewR => exact absurd hi.symm Bool.false_ne_true
  | accepted => exact absurd hi.symm Bool.false_ne_true
  | reAcked => exact absurd hi.symm Bool.false_ne_true
  | _ => rfl

theorem execRcvRx_receiverEffect {data : Bytes} {s t : State} (h : execRcvRx data s = .next t) :
    ReceiverEffect s t := by
  obtain ⟨r, rfl, -⟩ | ⟨r, rfl, -, hseq, -, -⟩ | ⟨r, rfl, -, -⟩ | rfl := execRcvRx_cases data s t h
  · exact .quiet rfl le_rfl
  · exact .accepted _ r rfl rfl rfl hseq
  · exact .quiet rfl le_rfl
  · exact .quiet rfl le_rfl

theorem exec_receiverEffect {i : Instr} {s t : State} (h : exec i s = .next t) : ReceiverEffect s t := by
  cases i with
  | rcvRx data => exact execRcvRx_receiverEffect h
  | _ => exact .of_receiver_eq ((exec_effect h).receiver_eq rfl)

theorem acceptCommand_receiverEffect {s t : State} (h : acceptCommand s = .next t) : ReceiverEffect s t := by
  obtain ⟨-, rfl⟩ | ⟨-, -, -, -, rfl⟩ | ⟨_, _, -, -, h⟩ := acceptCommand_cases s t h
  · exact .of_receiver_eq rfl
  · exact .of_receiver_eq rfl
  · exact exec_receiverEffect h

theorem step_receiverEffect {s t : State} (h : step s = .next t)
    (hreset : ∀ cfg, Event.reset cfg ∉ s.schedule) : ReceiverEffect s t := by
  obtain ⟨-, rfl⟩ | ⟨e, rest, hsch, he⟩ := step_cases s t h
  · exact .of_receiver_eq rfl
  have heffect : ReceiverEffect { s with schedule := rest } t := by
    obtain ⟨c, -, rfl⟩ | ⟨-, h⟩ | ⟨-, rfl⟩ | ⟨-, rfl⟩ | ⟨-, rfl⟩ | ⟨-, rfl⟩ | ⟨-, rfl⟩ | ⟨cfg, rfl, -, -⟩ := he
    · exact .of_receiver_eq (present_receiver _ c)
    · exact acceptCommand_receiverEffect h
    · exact .of_receiver_eq (tick_receiver _)
    · exact .of_receiver_eq (expire_receiver _)
    · exact .of_receiver_eq rfl
    · exact .quiet rfl le_rfl
    · exact .quiet rfl s.deliver.tail_sublist.length_le
    · exact absurd (hsch ▸ List.mem_cons_self) (hreset cfg)
  cases heffect with
  | quiet hexpected hlength => exact .quiet hexpected hlength
  | accepted payload r hexpected hdeliver hresp hseq => exact .accepted payload r hexpected hdeliver hresp hseq

/-! ### The accepted frames of a run (R158) -/

theorem acceptedSeqs_of_quiet {s t : State} (n : Nat) (h : step s = .next t)
    (hlength : t.deliver.length ≤ s.deliver.length) : acceptedSeqs (n + 1) s = acceptedSeqs n t := by
  simp only [acceptedSeqs, h, if_neg hlength.not_gt]

theorem acceptedSeqs_of_accepted {s t : State} {payload : Bytes} {r : Response} (n : Nat) (h : step s = .next t)
    (hdeliver : t.deliver = s.deliver ++ [payload]) (hresp : t.resp = some r) :
    acceptedSeqs (n + 1) s = r.v0 :: acceptedSeqs n t := by
  have hlength : s.deliver.length < t.deliver.length := by simp [hdeliver]
  simp only [acceptedSeqs, h, if_pos hlength, hresp]

/-- Settles O48, by induction on the number of steps: a step that accepts a frame reports `EXPECTED` and toggles it, any
other leaves both the list and `EXPECTED`. -/
theorem acceptedSequenceAlternates : Obligations.AcceptedSequenceAlternates := by
  unfold Obligations.AcceptedSequenceAlternates
  intro n
  induction n with
  | zero => exact fun _ _ => rfl
  | succ n ih =>
    intro s hreset
    cases hstep : step s with
    | fault => simp only [acceptedSeqs, hstep, List.length_nil, alternating]
    | refused => simp only [acceptedSeqs, hstep, List.length_nil, alternating]
    | next t =>
      have hrest : ∀ cfg, Event.reset cfg ∉ t.schedule := fun cfg hmem =>
        hreset cfg (List.mem_of_mem_tail (step_schedule hstep ▸ hmem))
      cases step_receiverEffect hstep hreset with
      | quiet hexpected hlength =>
        rw [acceptedSeqs_of_quiet n hstep hlength, ← hexpected]
        exact ih t hrest
      | accepted payload r hexpected hdeliver hresp hseq =>
        rw [acceptedSeqs_of_accepted n hstep hdeliver hresp, hseq, List.length_cons, alternating, ← hexpected]
        exact congrArg _ (ih t hrest)

end Sys2Proof.Machine
end

section
/-! The statements about the command port (45_system.md R159 to R162): a tuple without an assigned opcode, the word
of the opcode table that is taken next, and the value of each assigned CSR. -/

namespace Sys2Proof

/-! ### What the decoder does with an unassigned opcode and with a command word (R80, R91) -/

/-- The opcode map assigns no value outside the eleven of 30_encoding.md R89. -/
theorem opcodeOf_eq_none_of_not_mem {b : BitVec 8}
    (h : b ∉ [0x01#8, 0x02#8, 0x03#8, 0x04#8, 0x10#8, 0x11#8, 0x12#8, 0x13#8, 0x14#8, 0x20#8, 0x30#8]) :
    opcodeOf b = none := by
  refine Option.eq_none_iff_forall_ne_some.mpr fun op hop => h ?_
  rw [eq_byte_of_opcodeOf hop]
  cases op <;> decide

theorem decode_of_opcodeOf_none {c : Command} (hop : opcodeOf c.opc = none) :
    decode c = .reject .unassignedOpcode := by
  simp only [decode, hop]

theorem decode_of_decodeTableWord {nbits w : Nat} {i : Instr} (h : decodeTableWord nbits w = some i) :
    decode (commandOfWord nbits w) = .instr i := by
  unfold decodeTableWord at h
  split at h
  · next hdec => rw [hdec, Option.some.inj h]
  · cases h

end Sys2Proof

namespace Sys2Proof.Machine

/-- Settles O4: the tuple does not decode, and the engine refuses it with `ST_ILLEGAL`. -/
theorem unassignedOpcodeAnswersIllegal : Obligations.UnassignedOpcodeAnswersIllegal := by
  unfold Obligations.UnassignedOpcodeAnswersIllegal
  intro s c hport hopc
  exact acceptCommand_of_reject hport (decode_of_opcodeOf_none (opcodeOf_eq_none_of_not_mem hopc))

/-- Settles O8: the accept event is scheduled first, the word's command waits on the port, and taking it leaves the
schedule of `s`. -/
theorem presentedWordRunsNext : Obligations.PresentedWordRunsNext := by
  unfold Obligations.PresentedWordRunsNext
  intro s w i h
  exact (step_accept rfl).trans (acceptCommand_of_decode rfl (decode_of_decodeTableWord h))

/-! ### The values of the CSR map as numbers (10_state.md R29, R33, R34) -/

theorem csrValue_sndState_packed (s : State) :
    csrValue s 0x01#8 = some (BitVec.ofNat 32 (s.sndState.code.toNat + 4 * s.shutdown.toNat + 8 * s.pendValid.toNat
      + 16 * (!s.sndState.awaiting).toNat)) := by
  have hbits : ∀ (ready valid shut : Bool) (code : BitVec 2),
      0#27 ++ BitVec.ofBool ready ++ BitVec.ofBool valid ++ BitVec.ofBool shut ++ code
        = BitVec.ofNat 32 (code.toNat + 4 * shut.toNat + 8 * valid.toNat + 16 * ready.toNat) := by decide
  exact (csrValue_sndState s).trans (congrArg some (hbits _ _ _ _))

theorem csrValue_bytesSent_low (s : State) :
    csrValue s 0x04#8 = some (BitVec.ofNat 32 (s.bytesSent.toNat % 4294967296)) := by
  have hlow : s.bytesSent.extractLsb' 0 32 = BitVec.ofNat 32 (s.bytesSent.toNat % 4294967296) :=
    BitVec.eq_of_toNat_eq (by simp)
  exact congrArg some hlow

theorem csrValue_bytesSent_high (s : State) :
    csrValue s 0x05#8 = some (BitVec.ofNat 32 (s.bytesSent.toNat / 4294967296)) := by
  have hhigh : s.bytesSent.extractLsb' 32 32 = BitVec.ofNat 32 (s.bytesSent.toNat / 4294967296) :=
    BitVec.eq_of_toNat_eq (by simp [Nat.shiftRight_eq_div_pow])
  exact congrArg some hhigh

theorem csrValue_tmrCtrl_packed (s : State) :
    csrValue s 0x06#8 = some (BitVec.ofNat 32 (s.tmrArmed.toNat + 2 * s.tmrPend.toNat)) := by
  have hbits : ∀ armed pend : Bool,
      0#30 ++ BitVec.ofBool pend ++ BitVec.ofBool armed = BitVec.ofNat 32 (armed.toNat + 2 * pend.toNat) := by decide
  exact congrArg some (hbits _ _)

theorem csrValue_pendLen (s : State) : csrValue s 0x0A#8 = some (BitVec.ofNat 32 s.pendLen.toNat) :=
  congrArg some (BitVec.ofNat_toNat 32 s.pendLen).symm

theorem bitWord_eq_ofNat (b : Bool) : bitWord b = BitVec.ofNat 32 b.toNat := by cases b <;> rfl

theorem csrValue_expected (s : State) : csrValue s 0x0B#8 = some (BitVec.ofNat 32 s.expected.toNat) :=
  congrArg some (bitWord_eq_ofNat s.expected)

/-- `CSR_RD` answers by any table whose rows are values of the CSR map. -/
theorem exec_csrRd_of_mem {s : State} {table : List (BitVec 8 × Word)} {n : BitVec 8} {v : Word}
    (htable : ∀ row ∈ table, csrValue s row.1 = some row.2) (hmem : (n, v) ∈ table) :
    exec (.csrRd n) s = .next (s.respond { status := Status.ok.code, v0 := v }) :=
  execCsrRd_of_csrValue (htable (n, v) hmem)

/-- Settles O49, row by row: the packed, cut and widened values are the lemmas above, the others are the fields. -/
theorem csrRdAnswersTheMap : Obligations.CsrRdAnswersTheMap := by
  unfold Obligations.CsrRdAnswersTheMap
  intro s n v hmem
  refine exec_csrRd_of_mem ?_ hmem
  simp only [List.forall_mem_cons]
  exact ⟨rfl, csrValue_sndState_packed s, rfl, rfl, csrValue_bytesSent_low s, csrValue_bytesSent_high s,
    csrValue_tmrCtrl_packed s, rfl, rfl, rfl, csrValue_pendLen s, csrValue_expected s, rfl, rfl, rfl, rfl, rfl, rfl,
    nofun⟩

end Sys2Proof.Machine
end

section
/-! The statements about exceptions and event order (60_exceptions.md R164 to R170): what one step does with each
event, that no step faults, and the race between an expiry and the ACK that makes it needless. -/

namespace Sys2Proof.Machine

/-! ### One step, by the schedule (R166) -/

section
variable {s : State} {rest : List Event}

theorem step_of_schedule_nil (h : s.schedule = []) : step s = .next s := by
  simp only [step, h]

theorem step_of_schedule_cons {e : Event} (h : s.schedule = e :: rest) :
    step s = takeEvent e { s with schedule := rest } := by
  simp only [step, h]

/-! ### The command port (45_system.md R162, R163) -/

theorem present_of_free {c : Command} (h : s.port = none) : s.present c = { s with port := some c, resp := none } := by
  simp only [State.present, h]

theorem present_of_occupied {c d : Command} (h : s.port = some d) : s.present c = s := by
  simp only [State.present, h]

theorem acceptCommand_of_empty (h : s.port = none) : acceptCommand s = .next s := by
  simp only [acceptCommand, fetch, h, Option.map_none]

end

/-- Settles O7: the step hands the scheduled event to `takeEvent`, whose effect is the event's own. -/
theorem stepTakesTheScheduledEvent : Obligations.StepTakesTheScheduledEvent := by
  unfold Obligations.StepTakesTheScheduledEvent
  intro s rest
  refine ⟨step_of_schedule_nil, step_of_schedule_cons, step_of_schedule_cons, step_of_schedule_cons,
    step_of_schedule_cons, step_of_schedule_cons, fun h hport => ?_, fun c h hport => ?_, fun c d h hport => ?_⟩
  · exact (step_accept h).trans (acceptCommand_of_empty hport)
  · exact (step_of_schedule_cons h).trans (congrArg Host.Outcome.next (present_of_free hport))
  · exact (step_of_schedule_cons h).trans (congrArg Host.Outcome.next (present_of_occupied hport))

/-! ### No event faults (R164) -/

/-- Whatever waits on the port, taking it gives a next state: a command by `exec_next`, any other tuple by its
refusal. -/
theorem acceptCommand_next (s : State) : ∃ t, acceptCommand s = .next t := by
  cases hport : s.port with
  | none => exact ⟨_, acceptCommand_of_empty hport⟩
  | some c =>
    cases hdec : decode c with
    | reject r => exact ⟨_, acceptCommand_of_reject hport hdec⟩
    | instr i => exact acceptCommand_of_decode hport hdec ▸ exec_next i s

/-- A reset is taken or refused by the validity of its configuration (70_reset_and_hazards.md R186). -/
theorem resetEvent_next_or_refused (cfg : Config) (s : State) :
    (∃ t, resetEvent cfg s = .next t)
    ∨ (configValid cfg = false ∧ resetEvent cfg s = .refused .invalidConfiguration) := by
  cases h : configValid cfg with
  | true => exact .inl ⟨_, if_pos h⟩
  | false => exact .inr ⟨rfl, if_neg (ne_true_of_eq_false h)⟩

theorem takeEvent_next_or_refused (e : Event) (s : State) :
    (∃ t, takeEvent e s = .next t)
    ∨ ∃ cfg : Config, e = .reset cfg ∧ configValid cfg = false
        ∧ takeEvent e s = .refused .invalidConfiguration := by
  cases e with
  | accept => exact .inl (acceptCommand_next s)
  | reset cfg => exact (resetEvent_next_or_refused cfg s).imp_right fun ⟨hbad, h⟩ => ⟨cfg, rfl, hbad, h⟩
  | _ => exact .inl ⟨_, rfl⟩

/-- Settles O9: with an empty schedule nothing happens, and of all events only a reset can be refused. -/
theorem noStepFaults : Obligations.NoStepFaults := by
  unfold Obligations.NoStepFaults
  intro s
  cases hsch : s.schedule with
  | nil => exact .inl ⟨s, step_of_schedule_nil hsch⟩
  | cons e rest =>
    rw [step_of_schedule_cons hsch]
    obtain hnext | ⟨cfg, rfl, hbad, hrefused⟩ := takeEvent_next_or_refused e { s with schedule := rest }
    · exact .inl hnext
    · exact .inr ⟨cfg, rest, rfl, hbad, hrefused⟩

/-! ### The expiry and ACK race (R170) -/

section
variable (s : State)

@[simp] theorem ackMatched_sndState : s.ackMatched.sndState = readyState (otherBit s.sndState.bit) := rfl
@[simp] theorem ackMatched_tmrArmed : s.ackMatched.tmrArmed = false := rfl
@[simp] theorem ackMatched_tmrPend : s.ackMatched.tmrPend = false := rfl
@[simp] theorem ackMatched_txS : s.ackMatched.txS = s.txS := rfl
@[simp] theorem ackMatched_lastRtt : s.ackMatched.lastRtt = s.now - s.sendTs := rfl

end

theorem expire_of_not_pending {s : State} (h : s.tmrPend = false) : s.expire = s :=
  expire_of_not_enabled fun he => Bool.false_ne_true (h.symm.trans ((expiryEnabled_iff s).mp he).1)

/-- Settles O59. The expiry only transmits the pending frame, so that the ACK takes the match path of `SND_RX` in
both orders: taken first it cancels the latched expiry, taken second it samples right at the stamp of the
retransmission. -/
theorem expiryAckRace : Obligations.ExpiryAckRace := by
  unfold Obligations.ExpiryAckRace
  intro s data hshut hwait hpend hclean hroom hintact hisAck hack
  have hexpire := expire_of_awaiting hpend hshut hwait hroom
  have hackFirst := execSndRx_matched hclean hintact hisAck hshut hwait hack
  have hackSecond := execSndRx_matched (s := State.transmit s.pendingFrame { s with tmrPend := false })
    hclean hintact hisAck hshut hwait hack
  refine ⟨_, _, hackFirst, (congrArg (execSndRx data) hexpire).trans hackSecond,
    expire_of_not_pending (ackMatched_tmrPend s.takeDrawsS), ?_⟩
  simp [readyState_otherBit]

end Sys2Proof.Machine
end

section
/-! The statements about reset (70_reset_and_hazards.md R183 to R186): the values of the registers after it, which
configurations it takes, and that the invariant begins there. -/

namespace Sys2Proof.Machine

/-! ### The reset event (R183, R186) -/

theorem resetEvent_of_valid {cfg : Config} (s : State) (h : configValid cfg = true) :
    resetEvent cfg s
      = .next { State.resetWith cfg with schedule := s.schedule, rngS := s.rngS, rngR := s.rngR } :=
  if_pos h

theorem resetEvent_of_invalid {cfg : Config} (s : State) (h : configValid cfg = false) :
    resetEvent cfg s = .refused .invalidConfiguration :=
  if_neg (ne_true_of_eq_false h)

theorem step_reset {s : State} {cfg : Config} {rest : List Event} (h : s.schedule = .reset cfg :: rest) :
    step s = resetEvent cfg { s with schedule := rest } :=
  step_of_schedule_cons h

/-- Settles O53: each value is the one `State.resetWith` writes. -/
theorem resetValues : Obligations.ResetValues := by
  unfold Obligations.ResetValues
  intro cfg
  and_intros <;> rfl

/-- Settles O54: the step runs `resetEvent`, whose test `configValid_iff` writes out. -/
theorem resetEventReinitialises : Obligations.ResetEventReinitialises := by
  unfold Obligations.ResetEventReinitialises
  intro s cfg rest hsch
  rw [step_reset hsch]
  exact ⟨resetEvent_of_valid _, resetEvent_of_invalid _, configValid_iff cfg⟩

/-! ### The invariant at reset (R184, R185) -/

/-- The types of the OPEN constants keep every parameter in its range (00_scope.md R8), whatever their values are. -/
theorem configValid_hardware : configValid Config.hardware = true := by
  refine (configValid_iff _).mpr ⟨?initTimeoutMin, ?initTimeoutMax, ?alphaMin, ?alphaMax, ?pLoss, ?pCorrupt,
    ?maxFrameMin, ?maxFrameMax, ?outDepthMin, ?outDepthMax⟩
  case initTimeoutMin | alphaMin | outDepthMin => exact Nat.succ_pos _
  case initTimeoutMax => exact Config.openInitTimeout.isLt
  case alphaMax => exact Config.openAlpha.isLt
  case pLoss | pCorrupt => exact Fin.is_le _
  case maxFrameMin | maxFrameMax => decide
  case outDepthMax => exact Config.openOutDepth.isLt

/-- Settles O55: every valid configuration resets to a state of the invariant, and this hardware's is valid. -/
theorem invariantAtReset : Obligations.InvariantAtReset :=
  State.Inv.resetWith configValid_hardware

end Sys2Proof.Machine
end
